-- ==== Sys2Proof/Word.lean ====
section
/-!
DEFINITION. The word types of the block: what the spec treats as bits (00_scope.md R11).
-/

namespace Sys2Proof

/-- A byte of the bus and of the mirrors (R11: "A byte is 8 bits"). -/
abbrev Byte := BitVec 8

/-- A 16-bit field: a raw temperature, a buzzer frequency, a pixel (10_state.md R22, R26, R36). -/
abbrev Half := BitVec 16

/-- A bus clock rate, `CLK_WIDTH` = 32 bits, an opaque unsigned number (00_scope.md R8, 10_state.md R31). -/
abbrev Clock := BitVec 32

/-- A 7-bit bus address (10_state.md R30). -/
abbrev BusAddr := BitVec 7

/-- A command word, 48 bits (30_encoding.md R101). -/
abbrev CommandWord := BitVec 48

/-- A query word, 16 bits (30_encoding.md R106). -/
abbrev QueryWord := BitVec 16

end Sys2Proof
end

