-- ==== Sys2Proof/Config.lean ====
section
/-!
DEFINITION. The implementation parameters of 00_scope.md: those the source gives (R7), those the spec decides
(R8), and the three it leaves OPEN, which are opaque constants: no value of theirs can be proved.
-/

namespace Sys2Proof.Config

/-! Parameters whose value the source gives (R7). -/

/-- `DEFAULT_ADDR`. -/
abbrev defaultAddr : BusAddr := 0x32#7
/-- `ADDR_MIN`, the least valid bus address. -/
abbrev addrMin : Byte := 0x08#8
/-- `ADDR_MAX`, the greatest valid bus address. -/
abbrev addrMax : Byte := 0x77#8
/-- `BASE_RATE_0`, the base rate of refresh-rate index 0. -/
abbrev baseRate0 : Clock := 6250#32
/-- `RETRY_BOUND`, identification attempts in `BEGIN`. -/
abbrev retryBound : BitVec 5 := 16#5
/-- `RETRY_DELAY_MS`, milliseconds between attempts. -/
abbrev retryDelayMs : Nat := 16
/-- `PIXELS`. -/
abbrev pixels : Nat := 384
/-- `CHUNK_BYTES`. -/
abbrev chunkBytes : Nat := 128
/-- `CHUNKS`. -/
abbrev chunks : Nat := 6
/-- `STATUS_SIZE`. -/
abbrev statusSize : Nat := 8
/-- `CONFIG_SIZE`. -/
abbrev configSize : Nat := 16
/-- `REFRESH_SIZE`. -/
abbrev refreshSize : Nat := 2
/-- `IDX_STATUS`. -/
abbrev idxStatus : Byte := 0x00#8
/-- `IDX_CONFIG`. -/
abbrev idxConfig : Byte := 0x08#8
/-- `IDX_ALARM_LO`. -/
abbrev idxAlarmLo : Byte := 0x20#8
/-- `IDX_ALARM_HI`. -/
abbrev idxAlarmHi : Byte := 0x30#8
/-- `IDX_REFRESH`. -/
abbrev idxRefresh : Byte := 0x6E#8
/-- `IDX_OVERVIEW`. -/
abbrev idxOverview : Byte := 0x70#8
/-- `INTERVAL_MIN`, the least blink interval a command stores. -/
abbrev intervalMin : Byte := 5#8
/-- `AREA_MAX`, the greatest monitored-area width or height. -/
abbrev areaMax : Byte := 15#8

/-! Parameters the spec decides (R8). -/

/-- `ALARM_SIZE` (90_conflicts.md C1: 8, not 6). -/
abbrev alarmSize : Nat := 8
/-- `OVERVIEW_SIZE` (90_conflicts.md C2: 16, not 14). -/
abbrev overviewSize : Nat := 16
/-- `IDENT_READ_LEN` = `IDX_ALARM_HI + ALARM_SIZE`. -/
abbrev identReadLen : Nat := 56
/-- Length of the status read of a poll (44_poll.md R233). -/
abbrev statusReadLen : Nat := 2
/-- `VALIDATE_ALWAYS` (90_conflicts.md C4, 44_poll.md R242). -/
abbrev validateAlways : Bool := true
/-- `ACK_PAYLOAD` (41_codec.md R156). -/
abbrev ackPayload : List Byte := [0x00#8]

/-! Parameters left OPEN (R8, decisions D10 and D11): free values, see notes/assumptions/6.md. -/

/-- `ID0_CONST`, the first identification constant. -/
opaque id0Const : Byte
/-- `ID1_CONST`, the second identification constant. -/
opaque id1Const : Byte
/-- `PIXEL_SENTINEL`, what a pixel lookup out of range answers. -/
opaque pixelSentinel : Half

end Sys2Proof.Config
end

