-- ==== Sys2Proof/Syntax.lean ====
section
/-!
DEFINITION. The 19 commands and 7 queries as one inductive type, one constructor per row of
spec/opcode_table.json (30_encoding.md R104, R107), and their textual form (R114).
-/

namespace Sys2Proof

/-- The operand `which`: 0 selects the Lowest alarm, 1 the Highest (30_encoding.md R103). -/
inductive Which where
  | lo
  | hi
  deriving DecidableEq, Repr

/-- The bit that encodes `which` (R103). -/
def Which.bit : Which → Bool
  | .lo => false
  | .hi => true

/-- `which` read from its bit (R103). -/
def Which.ofBit : Bool → Which
  | false => .lo
  | true => .hi

/-- A command or a query. Operands have the width of their field (R103, R106), except `n` of `SETRATE` and
`SETNOISE`: it is the number the host writes, as wide as the mirror byte it goes to, and the word has room for
its low 3 or 4 bits only (decision D38); `Instr.wellFormed` says when it fits. -/
inductive Instr where
  /-- `BEGIN addr8, hz` (R175). -/
  | beginSession (addr8 : Byte) (hz : Clock)
  /-- `IDENTIFY` (R170). -/
  | identify
  /-- `POLL` (R230). -/
  | poll
  /-- `CLKQ` (R133). -/
  | clkq
  /-- `WRCFG` (R190). -/
  | wrcfg
  /-- `WRALM which` (R195). -/
  | wralm (which : Which)
  /-- `SETBUZEN v` (R197). -/
  | setbuzen (v : Bool)
  /-- `SETLEDEN v` (R198). -/
  | setleden (v : Bool)
  /-- `SETMANACK v` (R199). -/
  | setmanack (v : Bool)
  /-- `SETRATE n` (R200). -/
  | setrate (n : Byte)
  /-- `SETNOISE n` (R201). -/
  | setnoise (n : Byte)
  /-- `SETAREA w, h` (R202). -/
  | setarea (w h : Byte)
  /-- `SETALMEN v` (R203). -/
  | setalmen (v : Byte)
  /-- `SETBUZ freq, vol` (R204). -/
  | setbuz (freq : Half) (vol : Byte)
  /-- `SETLED r, g, b` (R206). -/
  | setled (r g b : Byte)
  /-- `CHADDR v` (R205). -/
  | chaddr (v : Byte)
  /-- `ALMTHR which, raw` (R207). -/
  | almthr (which : Which) (raw : Half)
  /-- `ALMBUZ which, freq, interval` (R208). -/
  | almbuz (which : Which) (freq : Half) (interval : Byte)
  /-- `ALMLED which, r, g, b` (R209). -/
  | almled (which : Which) (r g b : Byte)
  /-- `QMIR addr` (R271). -/
  | qmir (addr : Byte)
  /-- `QPIX idx` (R273). -/
  | qpix (idx : BitVec 12)
  /-- `QSUM sel` (R275). -/
  | qsum (sel : BitVec 4)
  /-- `QBTN bit` (R277). -/
  | qbtn (bit : BitVec 3)
  /-- `QPIXC idx` (R274). -/
  | qpixc (idx : BitVec 12)
  /-- `QSUMC sel` (R276). -/
  | qsumc (sel : BitVec 4)
  /-- `QSTATE` (R278). -/
  | qstate
  deriving DecidableEq, Repr

/-- Commands go to the command port, queries to the query port (30_encoding.md R100). -/
def Instr.isCommand : Instr → Bool
  | .qmir _ | .qpix _ | .qsum _ | .qbtn _ | .qpixc _ | .qsumc _ | .qstate => false
  | _ => true

/-- A word presented on one of the two host ports (30_encoding.md R100 (a), (b)). -/
inductive PortWord where
  | command (w : CommandWord)
  | query (q : QueryWord)
  deriving DecidableEq, Repr

/-- The operand `which` is written `LO` or `HI` (R114). -/
def Which.text : Which → String
  | .lo => "LO"
  | .hi => "HI"

/-- Operands separated by commas (R114). -/
def operandText (ops : List String) : String := ", ".intercalate ops

/-- A flag operand is written 0 or 1 (R114). -/
def flagText (v : Bool) : String := if v then "1" else "0"

/-- The textual form of a command or a query, numbers in decimal (30_encoding.md R114). -/
def Instr.text : Instr → String
  | .beginSession a hz => "BEGIN " ++ operandText [toString a.toNat, toString hz.toNat]
  | .identify => "IDENTIFY"
  | .poll => "POLL"
  | .clkq => "CLKQ"
  | .wrcfg => "WRCFG"
  | .wralm which => "WRALM " ++ which.text
  | .setbuzen v => "SETBUZEN " ++ flagText v
  | .setleden v => "SETLEDEN " ++ flagText v
  | .setmanack v => "SETMANACK " ++ flagText v
  | .setrate n => "SETRATE " ++ toString n.toNat
  | .setnoise n => "SETNOISE " ++ toString n.toNat
  | .setarea w h => "SETAREA " ++ operandText [toString w.toNat, toString h.toNat]
  | .setalmen v => "SETALMEN " ++ toString v.toNat
  | .setbuz freq vol => "SETBUZ " ++ operandText [toString freq.toNat, toString vol.toNat]
  | .setled r g b => "SETLED " ++ operandText [toString r.toNat, toString g.toNat, toString b.toNat]
  | .chaddr v => "CHADDR " ++ toString v.toNat
  | .almthr which raw => "ALMTHR " ++ operandText [which.text, toString raw.toNat]
  | .almbuz which freq interval =>
    "ALMBUZ " ++ operandText [which.text, toString freq.toNat, toString interval.toNat]
  | .almled which r g b =>
    "ALMLED " ++ operandText [which.text, toString r.toNat, toString g.toNat, toString b.toNat]
  | .qmir addr => "QMIR " ++ toString addr.toNat
  | .qpix idx => "QPIX " ++ toString idx.toNat
  | .qsum sel => "QSUM " ++ toString sel.toNat
  | .qbtn bit => "QBTN " ++ toString bit.toNat
  | .qpixc idx => "QPIXC " ++ toString idx.toNat
  | .qsumc sel => "QSUMC " ++ toString sel.toNat
  | .qstate => "QSTATE"

end Sys2Proof
end

