-- ==== Sys2Proof/WellFormed.lean ====
section
/-!
DEFINITION. When a command or a query can be encoded: its operands fit their fields (30_encoding.md R103, R105;
decision D38).
-/

namespace Sys2Proof

/-- Every operand has the width of its field by its type, but for the two numbers below, whose field is
narrower than the mirror byte they go to: `SETRATE` takes 3 bits and `SETNOISE` 4 (R103, R105). -/
def Instr.wellFormed : Instr → Bool
  | .setrate n => decide (n.toNat < 8)
  | .setnoise n => decide (n.toNat < 16)
  | .beginSession _ _ | .identify | .poll | .clkq | .wrcfg | .wralm _ | .setbuzen _ | .setleden _
  | .setmanack _ | .setarea _ _ | .setalmen _ | .setbuz _ _ | .setled _ _ _ | .chaddr _ | .almthr _ _
  | .almbuz _ _ _ | .almled _ _ _ _ | .qmir _ | .qpix _ | .qsum _ | .qbtn _ | .qpixc _ | .qsumc _ | .qstate =>
    true

end Sys2Proof
end

