-- ==== Sys2Proof/Decode.lean ====
section
/-!
DEFINITION. The decoder of the two host ports, total on every word and rejecting by name (30_encoding.md R101 to
R110), and the encoder beside it, written from the same tables (R103, R104, R106, R107).
-/

namespace Sys2Proof

/-- Why a word is no command and no query (R108, R109). -/
inductive DecodeError where
  /-- The opcode is not in the map of R104. -/
  | unusedOpcode (op : Byte)
  /-- The opcode is used but an argument bit its format does not use is 1 (R101, R109). -/
  | strayArgumentBit (op : Byte)
  /-- The query opcode is 0x7 to 0xF (R108). -/
  | unusedQuery (qop : BitVec 4)
  /-- The query opcode is used but an unused argument bit is 1 (R106, R108). -/
  | strayQueryBit (qop : BitVec 4)
  deriving DecidableEq, Repr

/-- `op` = `cmd[47:40]` (R101). -/
def opField (w : CommandWord) : Byte := w.extractLsb' 40 8

/-- `arg` = `cmd[39:0]` (R101). -/
def argField (w : CommandWord) : BitVec 40 := w.extractLsb' 0 40

/-- The instruction, when the argument bits from bit `n` up are all 0 (R101); every format of R103 uses the
argument bits below one bound. -/
def withArgBits (n : Nat) (w : CommandWord) (i : Instr) : Except DecodeError Instr :=
  if argField w >>> n = 0#40 then .ok i else .error (.strayArgumentBit (opField w))

/-- The command a command word is (R103, R104). -/
def decodeCommand (w : CommandWord) : Except DecodeError Instr :=
  match (opField w).toNat with
  | 0x01 => withArgBits 40 w (.beginSession (w.extractLsb' 32 8) (w.extractLsb' 0 32))
  | 0x02 => withArgBits 0 w .identify
  | 0x03 => withArgBits 0 w .poll
  | 0x04 => withArgBits 0 w .clkq
  | 0x10 => withArgBits 0 w .wrcfg
  | 0x11 => withArgBits 1 w (.wralm (Which.ofBit (w.getLsbD 0)))
  | 0x20 => withArgBits 1 w (.setbuzen (w.getLsbD 0))
  | 0x21 => withArgBits 1 w (.setleden (w.getLsbD 0))
  | 0x22 => withArgBits 1 w (.setmanack (w.getLsbD 0))
  | 0x23 => withArgBits 3 w (.setrate ((w.extractLsb' 0 3).setWidth 8))
  | 0x24 => withArgBits 4 w (.setnoise ((w.extractLsb' 0 4).setWidth 8))
  | 0x25 => withArgBits 16 w (.setarea (w.extractLsb' 0 8) (w.extractLsb' 8 8))
  | 0x26 => withArgBits 8 w (.setalmen (w.extractLsb' 0 8))
  | 0x27 => withArgBits 24 w (.setbuz (w.extractLsb' 0 16) (w.extractLsb' 16 8))
  | 0x28 => withArgBits 24 w (.setled (w.extractLsb' 16 8) (w.extractLsb' 8 8) (w.extractLsb' 0 8))
  | 0x29 => withArgBits 8 w (.chaddr (w.extractLsb' 0 8))
  | 0x30 => withArgBits 17 w (.almthr (Which.ofBit (w.getLsbD 16)) (w.extractLsb' 0 16))
  | 0x31 =>
    withArgBits 25 w (.almbuz (Which.ofBit (w.getLsbD 24)) (w.extractLsb' 0 16) (w.extractLsb' 16 8))
  | 0x32 =>
    withArgBits 25 w
      (.almled (Which.ofBit (w.getLsbD 24)) (w.extractLsb' 16 8) (w.extractLsb' 8 8) (w.extractLsb' 0 8))
  | _ => .error (.unusedOpcode (opField w))

/-- `qop` = `q[15:12]` (R106). -/
def qopField (q : QueryWord) : BitVec 4 := q.extractLsb' 12 4

/-- The query, when the argument bits from bit `n` up are all 0 (R106). -/
def withQueryBits (n : Nat) (q : QueryWord) (i : Instr) : Except DecodeError Instr :=
  if q.extractLsb' 0 12 >>> n = 0#12 then .ok i else .error (.strayQueryBit (qopField q))

/-- The query a query word is (R107). -/
def decodeQuery (q : QueryWord) : Except DecodeError Instr :=
  match (qopField q).toNat with
  | 0x0 => withQueryBits 8 q (.qmir (q.extractLsb' 0 8))
  | 0x1 => withQueryBits 12 q (.qpix (q.extractLsb' 0 12))
  | 0x2 => withQueryBits 4 q (.qsum (q.extractLsb' 0 4))
  | 0x3 => withQueryBits 3 q (.qbtn (q.extractLsb' 0 3))
  | 0x4 => withQueryBits 12 q (.qpixc (q.extractLsb' 0 12))
  | 0x5 => withQueryBits 4 q (.qsumc (q.extractLsb' 0 4))
  | 0x6 => withQueryBits 0 q .qstate
  | _ => .error (.unusedQuery (qopField q))

/-- The decoder of both host ports (R100). -/
def decode : PortWord → Except DecodeError Instr
  | .command w => decodeCommand w
  | .query q => decodeQuery q

/-- A command word from its opcode and its argument (R101). -/
def commandWord (op : Byte) (arg : BitVec 40) : CommandWord := op.setWidth 48 <<< 40 ||| arg.setWidth 48

/-- A field of `k` bits placed at bit `at_` of an argument (R103). -/
def argAt {k : Nat} (at_ : Nat) (v : BitVec k) : BitVec 40 := v.setWidth 40 <<< at_

/-- The word of a command (R103, R104): every operand's low bits in its field, every unused bit 0. A query has
no command word; it is given the all-zero word, which is illegal (R109). -/
def encodeCommand : Instr → CommandWord
  | .beginSession addr8 hz => commandWord 0x01#8 (argAt 32 addr8 ||| argAt 0 hz)
  | .identify => commandWord 0x02#8 0#40
  | .poll => commandWord 0x03#8 0#40
  | .clkq => commandWord 0x04#8 0#40
  | .wrcfg => commandWord 0x10#8 0#40
  | .wralm which => commandWord 0x11#8 (argAt 0 (BitVec.ofBool which.bit))
  | .setbuzen v => commandWord 0x20#8 (argAt 0 (BitVec.ofBool v))
  | .setleden v => commandWord 0x21#8 (argAt 0 (BitVec.ofBool v))
  | .setmanack v => commandWord 0x22#8 (argAt 0 (BitVec.ofBool v))
  | .setrate n => commandWord 0x23#8 (argAt 0 (n.setWidth 3))
  | .setnoise n => commandWord 0x24#8 (argAt 0 (n.setWidth 4))
  | .setarea w h => commandWord 0x25#8 (argAt 8 h ||| argAt 0 w)
  | .setalmen v => commandWord 0x26#8 (argAt 0 v)
  | .setbuz freq vol => commandWord 0x27#8 (argAt 16 vol ||| argAt 0 freq)
  | .setled r g b => commandWord 0x28#8 (argAt 16 r ||| argAt 8 g ||| argAt 0 b)
  | .chaddr v => commandWord 0x29#8 (argAt 0 v)
  | .almthr which raw => commandWord 0x30#8 (argAt 16 (BitVec.ofBool which.bit) ||| argAt 0 raw)
  | .almbuz which freq interval =>
    commandWord 0x31#8 (argAt 24 (BitVec.ofBool which.bit) ||| argAt 16 interval ||| argAt 0 freq)
  | .almled which r g b =>
    commandWord 0x32#8 (argAt 24 (BitVec.ofBool which.bit) ||| argAt 16 r ||| argAt 8 g ||| argAt 0 b)
  | .qmir _ | .qpix _ | .qsum _ | .qbtn _ | .qpixc _ | .qsumc _ | .qstate => 0#48

/-- A query word from its opcode and its argument (R106). -/
def queryWord (qop : BitVec 4) (arg : BitVec 12) : QueryWord := qop.setWidth 16 <<< 12 ||| arg.setWidth 16

/-- The word of a query (R107); a command has none and is given an illegal word (R108). -/
def encodeQuery : Instr → QueryWord
  | .qmir addr => queryWord 0x0#4 (addr.setWidth 12)
  | .qpix idx => queryWord 0x1#4 idx
  | .qsum sel => queryWord 0x2#4 (sel.setWidth 12)
  | .qbtn bit => queryWord 0x3#4 (bit.setWidth 12)
  | .qpixc idx => queryWord 0x4#4 idx
  | .qsumc sel => queryWord 0x5#4 (sel.setWidth 12)
  | .qstate => queryWord 0x6#4 0#12
  | _ => queryWord 0xF#4 0#12

/-- The encoder of both host ports. -/
def encode (i : Instr) : PortWord :=
  if i.isCommand then .command (encodeCommand i) else .query (encodeQuery i)

/-- One row of an opcode map: a word `w` is this row's when `w & mask = match` (R104, R107). -/
structure OpcodeRow (n : Nat) where
  pattern : BitVec n
  mask : BitVec n
  deriving DecidableEq, Repr

/-- Whether a word is the row's. -/
def OpcodeRow.matches {n : Nat} (r : OpcodeRow n) (w : BitVec n) : Bool := w &&& r.mask == r.pattern

/-- The match and mask columns of the opcode map R104, in its order. -/
def commandRows : List (OpcodeRow 48) :=
  [⟨0x010000000000#48, 0xFF0000000000#48⟩, ⟨0x020000000000#48, 0xFFFFFFFFFFFF#48⟩,
   ⟨0x030000000000#48, 0xFFFFFFFFFFFF#48⟩, ⟨0x040000000000#48, 0xFFFFFFFFFFFF#48⟩,
   ⟨0x100000000000#48, 0xFFFFFFFFFFFF#48⟩, ⟨0x110000000000#48, 0xFFFFFFFFFFFE#48⟩,
   ⟨0x200000000000#48, 0xFFFFFFFFFFFE#48⟩, ⟨0x210000000000#48, 0xFFFFFFFFFFFE#48⟩,
   ⟨0x220000000000#48, 0xFFFFFFFFFFFE#48⟩, ⟨0x230000000000#48, 0xFFFFFFFFFFF8#48⟩,
   ⟨0x240000000000#48, 0xFFFFFFFFFFF0#48⟩, ⟨0x250000000000#48, 0xFFFFFFFF0000#48⟩,
   ⟨0x260000000000#48, 0xFFFFFFFFFF00#48⟩, ⟨0x270000000000#48, 0xFFFFFF000000#48⟩,
   ⟨0x280000000000#48, 0xFFFFFF000000#48⟩, ⟨0x290000000000#48, 0xFFFFFFFFFF00#48⟩,
   ⟨0x300000000000#48, 0xFFFFFFFE0000#48⟩, ⟨0x310000000000#48, 0xFFFFFE000000#48⟩,
   ⟨0x320000000000#48, 0xFFFFFE000000#48⟩]

/-- The match and mask columns of the query map R107, in its order. -/
def queryRows : List (OpcodeRow 16) :=
  [⟨0x0000#16, 0xFF00#16⟩, ⟨0x1000#16, 0xF000#16⟩, ⟨0x2000#16, 0xFFF0#16⟩, ⟨0x3000#16, 0xFFF8#16⟩,
   ⟨0x4000#16, 0xF000#16⟩, ⟨0x5000#16, 0xFFF0#16⟩, ⟨0x6000#16, 0xFFFF#16⟩]

/-- The port word whose bits are `w`: a row of the table of at most 16 bits is a query word, a wider one a
command word (30_encoding.md R100: both are fixed length). -/
def tablePortWord (nbits w : Nat) : PortWord :=
  if nbits ≤ 16 then .query (BitVec.ofNat 16 w) else .command (BitVec.ofNat 48 w)

/-- What the decoder reads from a row's bits (the host's question). -/
def decodeTableWord (nbits w : Nat) : Option Instr :=
  match decode (tablePortWord nbits w) with
  | .ok i => some i
  | .error _ => none

end Sys2Proof
end

