-- ==== Sys2Proof/Machine/State.lean ====
section
/-!
DEFINITION. The state of the block: the mirrors, the session and result registers, the published frame, the
hidden state (10_state.md R20 to R50), the ports (20_memory.md R60, 30_encoding.md R100), and its value after
reset (R48). Plain data throughout.
-/

namespace Sys2Proof.Machine

/-- The Status mirror `x[ST]` (10_state.md R21, fields in block order). -/
structure Status where
  button : Byte
  alarm : Byte
  rsv0 : Byte
  rsv1 : Byte
  id0 : Byte
  id1 : Byte
  verMajor : Byte
  verMinor : Byte
  deriving DecidableEq, Repr

/-- The Config mirror `x[CF]` (10_state.md R22, fields in block order). -/
structure ConfigRegs where
  addr : Byte
  addrInv : Byte
  funcCtrl : Byte
  refreshRate : Byte
  noiseFilter : Byte
  rsv0 : Byte
  rsv1 : Byte
  rsv2 : Byte
  monitorArea : Byte
  alarmEnable : Byte
  buzzerFreq : Half
  buzzerVol : Byte
  ledR : Byte
  ledG : Byte
  ledB : Byte
  deriving DecidableEq, Repr

/-- An Alarm mirror, `x[AL]` or `x[AH]` (10_state.md R26, fields in block order). -/
structure Alarm where
  threshold : Half
  buzzerFreq : Half
  interval : Byte
  ledR : Byte
  ledG : Byte
  ledB : Byte
  deriving DecidableEq, Repr

/-- The summary block of a frame (10_state.md R36, 41_codec.md R150). -/
structure Summary where
  median : Half
  average : Half
  mostDiff : Half
  mostDiffX : Byte
  mostDiffY : Byte
  lowest : Half
  lowestX : Byte
  lowestY : Byte
  highest : Half
  highestX : Byte
  highestY : Byte
  deriving DecidableEq, Repr

/-- The published frame (10_state.md R36): summary, the 384 raw pixels in device order, the subpage byte. -/
structure Frame where
  sum : Summary
  pix : Vector Half Config.pixels
  subpage : Byte
  deriving DecidableEq, Repr

/-- The staging buffers of a poll (10_state.md R38), as the bytes received; an empty buffer is the spec's "no
value" (R38, 60_exceptions.md R310). DESIGN CHOICE: where R38 says "no value" at the start of a poll after a
successful one, the earlier poll's bytes still stand here until this poll overwrites them; safe
(notes/assumptions/3.md). -/
structure Staging where
  /-- Button and alarm byte of poll step 2: 2 bytes when filled. -/
  status2 : List Byte
  /-- Refresh control of poll step 3: 2 bytes when filled. -/
  refresh : List Byte
  /-- Overview of poll step 4: 16 bytes when filled. -/
  overview : List Byte
  /-- The pixel chunks of poll step 5, in the order received: 768 bytes when filled. -/
  pixels : List Byte
  deriving DecidableEq, Repr

/-- Staging without a value (R38, R310). -/
def Staging.empty : Staging := { status2 := [], refresh := [], overview := [], pixels := [] }

/-- The cause codes of a command's result (60_exceptions.md R300). Codes 9 to 15 are never written. -/
inductive Cause where
  | none
  | transport
  | identMismatch
  | notReady
  | invalidFrame
  | badAddr
  | illegalCmd
  | noMirror
  | noSession
  deriving DecidableEq, Repr

/-- The sequencer states (10_state.md R40, in its order). -/
inductive Seq where
  | idle
  | idClk | idRead | idCheck | idExit
  | bgInit | bgDelay | bgDone
  | wrEnsure | wrMutate | wrClk | wrWrite | wrExit
  | plClk | plStatus | plBtnack | plRefresh | plOverview | plPixel | plAck | plValidate | plPublish | plExit
  | cq
  deriving DecidableEq, Repr

/-- The six request kinds of the bus port (20_memory.md R60 to R66). -/
inductive BusRequest where
  /-- `Wr(a, idx, v)` (R61). -/
  | wr (a : BusAddr) (idx : Byte) (v : List Byte)
  /-- `WrRd(a, idx, n, hold)` (R62). -/
  | wrRd (a : BusAddr) (idx : Byte) (n : Nat) (hold : Bool)
  /-- `RdMore(a, n, hold)` (R63). -/
  | rdMore (a : BusAddr) (n : Nat) (hold : Bool)
  /-- `ClkGet()` (R64). -/
  | clkGet
  /-- `ClkSet(hz)` (R65). -/
  | clkSet (hz : Clock)
  /-- `Delay(ms)` (R66). -/
  | delay (ms : Nat)
  deriving DecidableEq, Repr

/-- The Bus Transport's response to one request: an oracle answer under no law (20_memory.md R92). Every response
carries the three items; a request reads those its kind has: `ok` for `Wr`, `ok` and `data` for `WrRd` and
`RdMore`, `hz` for `ClkGet`, none for `ClkSet` and `Delay`. -/
structure Answer where
  ok : Bool
  data : List Byte
  hz : Clock
  deriving DecidableEq, Repr

/-- What the environment does next: the host presents a word on a port (30_encoding.md R102, R106), the Bus
Transport or the delay primitive answers the outstanding request (20_memory.md R60), or reset strikes
(70_reset_and_hazards.md R340). -/
inductive Event where
  | port (w : PortWord)
  | answer (a : Answer)
  | reset
  deriving DecidableEq, Repr

/-- Why the machine stops. No rule of the spec stops the block ("No failure is fatal", 60_exceptions.md R301,
R309): a failed command is a next state. -/
inductive Fault where
  /-- Raised by `resume` when an operation is in progress (`seq` is not IDLE) but `cur` holds no command word, a
  state no rule reaches. SAFE: the model stops where the spec has no behaviour. -/
  | lostCommand
  deriving DecidableEq, Repr

/-- Why an instruction has no meaning here. -/
inductive Refusal where
  /-- Raised by an arm of `exec` whose instruction has no meaning yet; no arm does. SAFE. -/
  | notModelled (mnemonic : String)
  deriving DecidableEq, Repr

/-- The state of the block. -/
@[ext]
structure State where
  /-- Status mirror `x[ST]` (R21). -/
  st : Status
  /-- Config mirror `x[CF]` (R22). -/
  cf : ConfigRegs
  /-- Lowest-alarm mirror `x[AL]` (R26). -/
  al : Alarm
  /-- Highest-alarm mirror `x[AH]` (R26). -/
  ah : Alarm
  /-- `bus_addr` (R30). -/
  busAddr : BusAddr
  /-- `base_clock` (R31). -/
  baseClock : Clock
  /-- The coherency tracker: `true` is Identified (R32). -/
  ident : Bool
  /-- `begun` (R50). -/
  begun : Bool
  /-- `mirrors_loaded` (R33). -/
  mirrorsLoaded : Bool
  /-- `busy` (R34). -/
  busy : Bool
  /-- `res_ok` (R34). -/
  resOk : Bool
  /-- `res_cause` (R34, R300). -/
  resCause : Cause
  /-- `res_value` (R34). -/
  resValue : BitVec 32
  /-- The published frame (R36). -/
  frame : Frame
  /-- `frame_present` (R37). -/
  framePresent : Bool
  /-- The staging buffers (R38). -/
  stg : Staging
  /-- `saved_clock` (R39). -/
  savedClock : Clock
  /-- The sequencer state (R40). -/
  seq : Seq
  /-- `chunk`, 0 to 5 (R41). -/
  chunk : Fin 6
  /-- `retry`, attempts remaining (R41). -/
  retry : BitVec 5
  /-- `cur`, the command word being executed (R41, R102). -/
  cur : CommandWord
  /-- `holding`, the block owns the bus between two requests (R43). -/
  holding : Bool
  /-- MODEL: what the snapshot read returned, between ID_READ and ID_CHECK (42_identify.md R171, R172). -/
  snap : Option (List Byte)
  /-- MODEL: the result of the open clock bracket, held over its closing `ClkSet` (R172, R192, R310). -/
  outcome : Cause
  /-- MODEL: the request issued and not yet answered (20_memory.md R60). -/
  pending : Option BusRequest
  /-- MODEL: every request issued so far, oldest first: the observation of 00_scope.md R10. -/
  busLog : List BusRequest
  /-- MODEL: `qvalid` of the last query answered (30_encoding.md R106). -/
  qvalid : Bool
  /-- MODEL: `qdata` of the last query answered (30_encoding.md R106). -/
  qdata : BitVec 32
  /-- MODEL: what the environment does from here on, in order (00_scope.md R9). -/
  env : List Event
  deriving DecidableEq, Repr

/-- A Status mirror that holds no value: zeros (DESIGN CHOICE, notes/assumptions/2.md). -/
def Status.blank : Status :=
  { button := 0, alarm := 0, rsv0 := 0, rsv1 := 0, id0 := 0, id1 := 0, verMajor := 0, verMinor := 0 }

/-- A Config mirror that holds no value: zeros (DESIGN CHOICE, notes/assumptions/2.md). -/
def ConfigRegs.blank : ConfigRegs :=
  { addr := 0, addrInv := 0, funcCtrl := 0, refreshRate := 0, noiseFilter := 0, rsv0 := 0, rsv1 := 0, rsv2 := 0,
    monitorArea := 0, alarmEnable := 0, buzzerFreq := 0, buzzerVol := 0, ledR := 0, ledG := 0, ledB := 0 }

/-- An Alarm mirror that holds no value: zeros (DESIGN CHOICE, notes/assumptions/2.md). -/
def Alarm.blank : Alarm := { threshold := 0, buzzerFreq := 0, interval := 0, ledR := 0, ledG := 0, ledB := 0 }

/-- A frame that holds no value: zeros (DESIGN CHOICE, notes/assumptions/2.md). -/
def Frame.blank : Frame :=
  { sum := { median := 0, average := 0, mostDiff := 0, mostDiffX := 0, mostDiffY := 0, lowest := 0, lowestX := 0,
             lowestY := 0, highest := 0, highestX := 0, highestY := 0 }
    pix := Vector.replicate Config.pixels 0
    subpage := 0 }

/-- The machine right after reset (10_state.md R48, 70_reset_and_hazards.md R340): the values R48 gives, zeros
(DESIGN CHOICE, notes/assumptions/2.md) where it says "no value", empty ports. -/
def State.reset : State :=
  { st := Status.blank
    cf := ConfigRegs.blank
    al := Alarm.blank
    ah := Alarm.blank
    busAddr := Config.defaultAddr
    baseClock := 0
    ident := false
    begun := false
    mirrorsLoaded := false
    busy := false
    resOk := false
    resCause := .none
    resValue := 0
    frame := Frame.blank
    framePresent := false
    stg := Staging.empty
    savedClock := 0
    seq := .idle
    chunk := 0
    retry := 0
    cur := 0
    holding := false
    snap := none
    outcome := .none
    pending := none
    busLog := []
    qvalid := false
    qdata := 0
    env := [] }

end Sys2Proof.Machine
end

