-- ==== Sys2Proof/Machine/Operands.lean ====
section
/-!
DEFINITION. Operand forms: byte order (20_memory.md R71), the transformations of operands (30_encoding.md R105),
the selection of a mirror and of a block (R103 `which`, 43_config_writer.md R193).
-/

namespace Sys2Proof.Machine

/-- `b[i]` on a byte sequence (00_scope.md R11). The block only reads bytes it has received; past the end it
reads 0, which no reachable state does (notes/assumptions/7.md). -/
def byteAt (b : List Byte) (i : Nat) : Byte := b.getD i 0

/-- `lo(v) = v[7:0]` (41_codec.md). -/
def lowByte (v : Half) : Byte := v.extractLsb' 0 8

/-- `hi(v) = v[15:8]` (41_codec.md). -/
def highByte (v : Half) : Byte := v.extractLsb' 8 8

/-- `le16(b, i)`: the byte at the lower offset is the less significant (00_scope.md R11, 20_memory.md R71). -/
def le16 (b : List Byte) (i : Nat) : Half :=
  (byteAt b i).setWidth 16 ||| (byteAt b (i + 1)).setWidth 16 <<< 8

/-- `ADDR_MIN <= v <= ADDR_MAX` (30_encoding.md R105, 60_exceptions.md R303). -/
def addrValid (v : Byte) : Bool := decide (Config.addrMin ≤ v) && decide (v ≤ Config.addrMax)

/-- `v[6:0]`, the bus address of an address operand (42_identify.md R175, 43_config_writer.md R205). -/
def addrLow (v : Byte) : BusAddr := v.setWidth 7

/-- `~v`, the address checksum byte (43_config_writer.md R205). -/
def addrChecksum (v : Byte) : Byte := ~~~v

/-- `min(v, 15)` of a monitored-area operand (41_codec.md R155). -/
def clampArea (v : Byte) : Byte := if v ≤ Config.areaMax then v else Config.areaMax

/-- `PackArea(w, h)`: clamped height in bits 7:4, clamped width in bits 3:0 (41_codec.md R155, decision D24). -/
def packArea (w h : Byte) : Byte := clampArea h <<< 4 ||| clampArea w

/-- `AreaWidth(m) = m[3:0]` (41_codec.md R155). -/
def areaWidth (m : Byte) : BitVec 4 := m.extractLsb' 0 4

/-- `AreaHeight(m) = m[7:4]` (41_codec.md R155). -/
def areaHeight (m : Byte) : BitVec 4 := m.extractLsb' 4 4

/-- `max(interval, 5)` of a blink-interval operand (43_config_writer.md R208). -/
def clampInterval (v : Byte) : Byte := if v < Config.intervalMin then Config.intervalMin else v

/-- `zext_8(n)` of the 3-bit refresh-rate operand (43_config_writer.md R200). -/
def rateOperand (n : Byte) : Byte := (n.extractLsb' 0 3).setWidth 8

/-- The noise-filter byte with bits 3:0 replaced by the 4-bit operand, bits 7:4 kept (43_config_writer.md
R201). -/
def noiseOperand (old n : Byte) : Byte := (old.extractLsb' 4 4).setWidth 8 <<< 4 ||| (n.extractLsb' 0 4).setWidth 8

/-- The Alarm mirror `which` selects (30_encoding.md R103). -/
def alarmOf (which : Which) (s : State) : Alarm :=
  match which with
  | .lo => s.al
  | .hi => s.ah

/-- The state with the selected Alarm mirror changed by `f`. -/
def updateAlarm (which : Which) (f : Alarm → Alarm) (s : State) : State :=
  match which with
  | .lo => { s with al := f s.al }
  | .hi => { s with ah := f s.ah }

/-- The state with the Config mirror changed by `f`. -/
def updateConfig (f : ConfigRegs → ConfigRegs) (s : State) : State := { s with cf := f s.cf }

end Sys2Proof.Machine
end

