-- ==== Sys2Proof/Machine/Flags.lean ====
section
/-!
DEFINITION. Flags: the named bit positions of 41_codec.md R157, the cause codes of 60_exceptions.md R300, and every
test the block makes on a flag or a raw value. There are no arithmetic condition codes (10_state.md R35).
-/

namespace Sys2Proof.Machine

/-- `BTN_IS_PRESSED`, bit position in `button`. -/
abbrev btnIsPressed : Nat := 0
/-- `BTN_WAS_PRESSED`, bit position in `button`. -/
abbrev btnWasPressed : Nat := 3
/-- `FC_BUZZER_EN`, bit position in `func_ctrl`. -/
abbrev fcBuzzerEn : Nat := 0
/-- `FC_LED_EN`, bit position in `func_ctrl`. -/
abbrev fcLedEn : Nat := 1
/-- `FC_AUTOCLR_DISABLE`, bit position in `func_ctrl`. -/
abbrev fcAutoclrDisable : Nat := 2
/-- `RC_FRAME_READY`, bit position in Refresh control byte 0. -/
abbrev rcFrameReady : Nat := 0

/-- `b` with bit `k` set to `v`, the other bits unchanged (43_config_writer.md R197 to R199). -/
def putBit (b : Byte) (k : Nat) (v : Bool) : Byte := if v then b ||| 1#8 <<< k else b &&& ~~~(1#8 <<< k)

/-- The button write-back test: any bit other than bit 0 (44_poll.md R234). -/
def needsWriteBack (button : Byte) : Bool := button &&& 0xFE#8 != 0#8

/-- The frame-ready flag of Refresh control byte 0 (41_codec.md R149, 44_poll.md R236). -/
def frameReady (b0 : Byte) : Bool := b0.getLsbD rcFrameReady

/-- `func_ctrl[2]`: the poll must acknowledge the frame itself (10_state.md R23, 44_poll.md R240). -/
def manualAck (c : ConfigRegs) : Bool := c.funcCtrl.getLsbD fcAutoclrDisable

/-- The validity of a frame: unsigned `lowest < highest` (44_poll.md R241). -/
def frameValid (m : Summary) : Bool := decide (m.lowest < m.highest)

/-- Whether step 6 of a poll makes the validity check (44_poll.md R242, `VALIDATE_ALWAYS`). -/
def validates (c : ConfigRegs) : Bool := Config.validateAlways || manualAck c

/-- The 4-bit code of a cause, as the host reads `res_cause` (60_exceptions.md R300). -/
def Cause.code : Cause → BitVec 4
  | .none => 0#4
  | .transport => 1#4
  | .identMismatch => 2#4
  | .notReady => 3#4
  | .invalidFrame => 4#4
  | .badAddr => 5#4
  | .illegalCmd => 6#4
  | .noMirror => 7#4
  | .noSession => 8#4

end Sys2Proof.Machine
end

