-- ==== Sys2Proof/Machine/Codec.lean ====
section
/-!
DEFINITION. The Register Codec (41_codec.md): the byte layout of every register block, as pure total functions.
Block bytes come in bus order, the first byte at the block's index (R71, R140).
-/

namespace Sys2Proof.Machine

/-- `DecStatus` (R142). -/
def decStatus (b : List Byte) : Status :=
  { button := byteAt b 0, alarm := byteAt b 1, rsv0 := byteAt b 2, rsv1 := byteAt b 3, id0 := byteAt b 4,
    id1 := byteAt b 5, verMajor := byteAt b 6, verMinor := byteAt b 7 }

/-- `EncStatus` (R142), used by the query port only. -/
def encStatus (s : Status) : List Byte :=
  [s.button, s.alarm, s.rsv0, s.rsv1, s.id0, s.id1, s.verMajor, s.verMinor]

/-- `DecConfig` (R144): every byte stored, nothing masked. -/
def decConfig (b : List Byte) : ConfigRegs :=
  { addr := byteAt b 0, addrInv := byteAt b 1, funcCtrl := byteAt b 2, refreshRate := byteAt b 3,
    noiseFilter := byteAt b 4, rsv0 := byteAt b 5, rsv1 := byteAt b 6, rsv2 := byteAt b 7,
    monitorArea := byteAt b 8, alarmEnable := byteAt b 9, buzzerFreq := le16 b 10, buzzerVol := byteAt b 12,
    ledR := byteAt b 13, ledG := byteAt b 14, ledB := byteAt b 15 }

/-- `EncConfig` (R145). -/
def encConfig (c : ConfigRegs) : List Byte :=
  [c.addr, c.addrInv, c.funcCtrl, c.refreshRate, c.noiseFilter, c.rsv0, c.rsv1, c.rsv2, c.monitorArea,
   c.alarmEnable, lowByte c.buzzerFreq, highByte c.buzzerFreq, c.buzzerVol, c.ledR, c.ledG, c.ledB]

/-- `DecAlarm` (R147): the interval is not clamped. -/
def decAlarm (b : List Byte) : Alarm :=
  { threshold := le16 b 0, buzzerFreq := le16 b 2, interval := byteAt b 4, ledR := byteAt b 5,
    ledG := byteAt b 6, ledB := byteAt b 7 }

/-- `EncAlarm` (R148). -/
def encAlarm (a : Alarm) : List Byte :=
  [lowByte a.threshold, highByte a.threshold, lowByte a.buzzerFreq, highByte a.buzzerFreq, a.interval, a.ledR,
   a.ledG, a.ledB]

/-- `DecRefresh` (R149): the frame-ready flag and the subpage byte. -/
def decRefresh (b : List Byte) : Bool × Byte := (frameReady (byteAt b 0), byteAt b 1)

/-- `DecOverview` (R151). -/
def decOverview (b : List Byte) : Summary :=
  { median := le16 b 0, average := le16 b 2, mostDiff := le16 b 4, mostDiffX := byteAt b 6,
    mostDiffY := byteAt b 7, lowest := le16 b 8, lowestX := byteAt b 10, lowestY := byteAt b 11,
    highest := le16 b 12, highestX := byteAt b 14, highestY := byteAt b 15 }

/-- The first `n` little-endian pairs of a byte sequence (R152). -/
def decPairs : Nat → List Byte → List Half
  | 0, _ => []
  | n + 1, p => le16 p 0 :: decPairs n (p.drop 2)

/-- `decPairs n` answers `n` values. -/
theorem decPairs_length (n : Nat) (p : List Byte) : (decPairs n p).length = n := by
  induction n generalizing p with
  | zero => rfl
  | succ n ih => simp [decPairs, ih]

/-- `DecPixels` (R152): `pix[k] = le16(p, 2k)` for the 384 pixels, `p` the six chunks in the order received. -/
def decPixels (p : List Byte) : Vector Half Config.pixels :=
  ⟨(decPairs Config.pixels p).toArray, by simp [decPairs_length]⟩

/-- `SplitSnapshot` (R153): the four blocks of the 56 bytes of an identification read, the gaps discarded. -/
def splitSnapshot (b : List Byte) : Status × ConfigRegs × Alarm × Alarm :=
  (decStatus (b.take 8), decConfig ((b.drop 8).take 16), decAlarm ((b.drop 32).take 8),
    decAlarm ((b.drop 48).take 8))

end Sys2Proof.Machine
end

