-- ==== Sys2Proof/Machine/Scaler.lean ====
section
/-!
DEFINITION. The Clock Scaler (40_clock_scaler.md R130 to R132): pure, no failure.
-/

namespace Sys2Proof.Machine

/-- `baseRateForIndex(n) = 6250 * 2^n` (R130, R131). -/
def baseRate (n : BitVec 3) : Clock := Config.baseRate0 <<< n.toNat

/-- `ClockScale(n, minimum) = max(baseRateForIndex(n), minimum)`, unsigned (R130). -/
def clockScale (n : BitVec 3) (minimum : Clock) : Clock := if baseRate n < minimum then minimum else baseRate n

/-- The scaled clock of the session: the low 3 bits of the cached refresh rate, at least `base_clock` (R132). -/
def scaledClock (s : State) : Clock := clockScale (s.cf.refreshRate.extractLsb' 0 3) s.baseClock

end Sys2Proof.Machine
end

