-- ==== Sys2Proof/Machine/Convert.lean ====
section
/-!
DEFINITION. The raw to Celsius mapping (45_accessors.md R279 to R282), exact arithmetic, and the frame rate of a
refresh-rate index (10_state.md R24). Only `c128` is used by the block, in two queries.
-/

namespace Sys2Proof.Machine

/-- `RawToCelsius(raw) = raw/128 - 64` (R279). -/
def rawToCelsius (raw : Half) : ℚ := (raw.toNat : ℚ) / 128 - 64

/-- To the nearest integer, a tie away from zero (R280, decision D30). -/
def roundHalfAway (q : ℚ) : Int := if 0 ≤ q then (q + 1 / 2).floor else -((-q + 1 / 2).floor)

/-- `clamp(t, 0, 65535)` as a raw value (R280, R282). -/
def clampRaw (t : Int) : Half := if t < 0 then 0#16 else if 65535 < t then 65535#16 else BitVec.ofInt 16 t

/-- `CelsiusToRaw(c) = clamp(round((c + 64) x 128), 0, 65535)` (R280). -/
def celsiusToRaw (c : ℚ) : Half := clampRaw (roundHalfAway ((c + 64) * 128))

/-- `C128(raw) = raw - 8192`, in units of 1/128 degree Celsius (R282). -/
def c128 (raw : Half) : Int := (raw.toNat : Int) - 8192

/-- The device frame rate of a refresh-rate index, `0.5 x 2^n` Hz; the block never computes it (10_state.md
R24). -/
def frameRateHz (n : BitVec 3) : ℚ := 1 / 2 * 2 ^ n.toNat

end Sys2Proof.Machine
end

