-- ==== Sys2Proof/Machine/Ops.lean ====
section
/-!
DEFINITION. The shared operations: issuing a bus request and settling its response (20_memory.md R60 to R67), the
failure exit and the success exit, which stand for trap entry and return (60_exceptions.md R310, R311), the
reset of the registers (70_reset_and_hazards.md R340), the illegal words (30_encoding.md R108, R109).
-/

namespace Sys2Proof.Machine

/-- Issue a bus request: it is outstanding from here on and part of the observation (R10, R60). -/
def issue (r : BusRequest) (s : State) : State :=
  { s with pending := some r, busLog := s.busLog ++ [r] }

/-- `ok` of a `Wr` (R61). -/
def wrote (a : Answer) : Bool := a.ok

/-- `(ok, data)` of a read of `n` bytes: the bytes when the request succeeded with exactly `n` of them, nothing
otherwise; a short transfer is a failure (R62, R67). -/
def received (n : Nat) (a : Answer) : Option (List Byte) :=
  if a.ok && a.data.length == n then some a.data else none

/-- Whether the block owns the bus after a response (R43, R62, R63, R67): only a read with `hold = 1` that
succeeded keeps it; `ClkGet`, `ClkSet` and `Delay` are no bus transactions and leave it as it is. -/
def holdingAfter (r : BusRequest) (a : Answer) (before : Bool) : Bool :=
  match r with
  | .wr _ _ _ => false
  | .wrRd _ _ n hold => hold && (received n a).isSome
  | .rdMore _ n hold => hold && (received n a).isSome
  | .clkGet | .clkSet _ | .delay _ => before

/-- The response `a` of the outstanding request `r` has arrived (R60). -/
def settle (r : BusRequest) (a : Answer) (s : State) : State :=
  { s with pending := none, holding := holdingAfter r a s.holding }

/-- The `_EXIT` state of the clock bracket that is open in a sequencer state, if one is (60_exceptions.md
R310). -/
def openBracketExit : Seq → Option Seq
  | .idRead | .idCheck => some .idExit
  | .wrWrite => some .wrExit
  | .plStatus | .plBtnack | .plRefresh | .plOverview | .plPixel | .plAck | .plValidate | .plPublish =>
    some .plExit
  | .idle | .idClk | .idExit | .bgInit | .bgDelay | .bgDone | .wrEnsure | .wrMutate | .wrClk | .wrExit
  | .plClk | .plExit | .cq => none

/-- The end of the failure exit, with no bracket open: release the bus, discard staging, write the result
registers, go to IDLE (R310). -/
def endFail (c : Cause) (s : State) : State :=
  { s with holding := false, stg := Staging.empty, resOk := false, resCause := c, resValue := 0, busy := false,
           seq := .idle }

/-- `raise Fail(cause)` (R310): with a bracket open the sequencer goes to its `_EXIT` state, which issues the
closing `ClkSet` and then ends; without one the command ends at once. The nested identification hands the cause
to its caller instead of ending (R315), which its `_EXIT` state does. -/
def raiseFail (c : Cause) (s : State) : State :=
  match openBracketExit s.seq with
  | some e => { s with seq := e, outcome := c }
  | none => endFail c s

/-- `return Ok(value)` (R311). DESIGN CHOICE: it leaves staging as the operation filled it, so a poll after a successful
one starts with the earlier bytes where 10_state.md R38 says "no value"; safe, none is read before it is written
(notes/assumptions/3.md). -/
def endOk (value : BitVec 32) (s : State) : State :=
  { s with resOk := true, resCause := .none, resValue := value, busy := false, seq := .idle }

/-- The end of a command whose bracket is closed: by the result the bracket held. -/
def endWith (value : BitVec 32) (s : State) : State :=
  if s.outcome = .none then endOk value s else endFail s.outcome s

/-- An illegal command word, accepted while `busy = 0`, ends at once; only the result registers change
(30_encoding.md R109, 60_exceptions.md R308). -/
def illegalCommand (s : State) : State :=
  { s with resOk := false, resCause := .illegalCmd, resValue := 0 }

/-- Answer on the query port (30_encoding.md R106). -/
def reply (valid : Bool) (data : BitVec 32) (s : State) : State := { s with qvalid := valid, qdata := data }

/-- The invalid answer, `qvalid = 0` and `qdata = 0` (30_encoding.md R106, R108, 45_accessors.md R272). -/
def replyInvalid (s : State) : State := reply false 0 s

/-- Reset: every register at its value after reset in one step; no bus request, and the ports' histories stay
(70_reset_and_hazards.md R340, R342). What becomes of a late answer to the request it forgets is the model's choice
(notes/assumptions/21.md). -/
def resetBlock (s : State) : State := { State.reset with busLog := s.busLog, env := s.env }

end Sys2Proof.Machine
end

