-- ==== Sys2Proof/Machine/Identification.lean ====
section
/-!
DEFINITION. The identification operation's check and load (42_identify.md R172, R173) and what `BEGIN` does around
it (R175, R176).
-/

namespace Sys2Proof.Machine

/-- The two identification bytes match the device constants (42_identify.md R172). Nothing else is compared
(R173). -/
def idMatches (b : List Byte) : Prop := byteAt b 4 = Config.id0Const ∧ byteAt b 5 = Config.id1Const

/-- Load the four mirrors, `ident` and `mirrors_loaded` in one step (R172, 20_memory.md R80). -/
def loadMirrors (b : List Byte) (s : State) : State :=
  { s with st := (splitSnapshot b).1, cf := (splitSnapshot b).2.1, al := (splitSnapshot b).2.2.1,
           ah := (splitSnapshot b).2.2.2, ident := true, mirrorsLoaded := true }

/-- ID_CHECK (R172): a failed read or a mismatch drops the tracker and leaves the mirrors; a match loads them. -/
def identCheck (s : State) : State :=
  match s.snap with
  | none => raiseFail .transport { s with ident := false }
  | some b =>
    if byteAt b 4 = Config.id0Const ∧ byteAt b 5 = Config.id1Const then
      { loadMirrors b s with outcome := .none, seq := .idExit }
    else raiseFail .identMismatch { s with ident := false }

/-- BG_INIT: the accepted `BEGIN` makes a fresh session (42_identify.md R175). -/
def beginSessionInit (addr8 : Byte) (hz : Clock) (s : State) : State :=
  { s with begun := true, busAddr := addrLow addr8, baseClock := hz, ident := false, mirrorsLoaded := false,
           framePresent := false, retry := Config.retryBound }

/-- One attempt of `BEGIN` has returned (R176): done on success or when no attempt remains, else the delay. -/
def attemptReturned (s : State) : State :=
  if s.outcome = .none then { s with seq := .bgDone }
  else { s with retry := s.retry - 1, seq := if s.retry - 1 = 0 then .bgDone else .bgDelay }

end Sys2Proof.Machine
end

