-- ==== Sys2Proof/Machine/BlockWrite.lean ====
section
/-!
DEFINITION. The single write primitive of the Config Writer (43_config_writer.md R192, R193).
-/

namespace Sys2Proof.Machine

/-- The block a Config Writer command writes (R193). -/
inductive Block where
  | config
  | alarm (which : Which)
  deriving DecidableEq, Repr

/-- The register index of a block (R193). -/
def blockIndex : Block → Byte
  | .config => Config.idxConfig
  | .alarm .lo => Config.idxAlarmLo
  | .alarm .hi => Config.idxAlarmHi

/-- The payload of a block write: the encoding of the whole current mirror (R193). -/
def blockBytes (b : Block) (s : State) : List Byte :=
  match b with
  | .config => encConfig s.cf
  | .alarm which => encAlarm (alarmOf which s)

/-- The `Wr` request of a block write (R192, R193). -/
def blockRequest (b : Block) (s : State) : BusRequest := .wr s.busAddr (blockIndex b) (blockBytes b s)

/-- WR_WRITE answered: the result is held over the closing `ClkSet` (R192). -/
def blockWritten (a : Answer) (s : State) : State :=
  if wrote a then { s with outcome := .none, seq := .wrExit } else raiseFail .transport s

/-- WR_EXIT answered (R192): on success the tracker stays Identified, the command's own last lines (`commit`)
run and it ends; on failure the tracker drops and the command fails, the mirror keeping what it holds (R194). -/
def writeFinished (commit : State → State) (s : State) : State :=
  if s.outcome = .none then endOk 0 (commit { s with ident := true })
  else endFail s.outcome { s with ident := false }

end Sys2Proof.Machine
end

