-- ==== Sys2Proof/Machine/PollSteps.lean ====
section
/-!
DEFINITION. The steps of a telemetry poll (44_poll.md R230, R232 to R243), as what each does when its request is
answered, and the two steps without a request.
-/

namespace Sys2Proof.Machine

/-- Step 2, status read answered (R233, R234). -/
def statusRead (a : Answer) (s : State) : State :=
  match received Config.statusReadLen a with
  | none => raiseFail .transport s
  | some b =>
    { s with stg := { s.stg with status2 := b },
             seq := if needsWriteBack (byteAt b 0) then .plBtnack else .plRefresh }

/-- Step 2, button write-back answered (R234). -/
def buttonAcked (a : Answer) (s : State) : State :=
  if wrote a then { s with seq := .plRefresh } else raiseFail .transport s

/-- Step 3, refresh-control read answered, and the frame-ready test (R235, R236). -/
def refreshRead (a : Answer) (s : State) : State :=
  match received Config.refreshSize a with
  | none => raiseFail .transport s
  | some b =>
    if (decRefresh b).1 then { s with stg := { s.stg with refresh := b }, seq := .plOverview }
    else raiseFail .notReady { s with stg := { s.stg with refresh := b } }

/-- Step 4, overview read answered (R237); the pixel loop starts at chunk 0 with no pixel staged (R238). -/
def overviewRead (a : Answer) (s : State) : State :=
  match received Config.overviewSize a with
  | none => raiseFail .transport s
  | some b => { s with stg := { s.stg with overview := b, pixels := [] }, chunk := 0, seq := .plPixel }

/-- `hold` of a pixel chunk: the bus is kept for chunks 0 to 4 (R238). -/
def chunkHold (chunk : Fin 6) : Bool := decide (chunk.val < 5)

/-- Step 5, one pixel chunk answered (R238): the next chunk, or step 6, whose acknowledgement is skipped in the
automatic mode (R240). -/
def chunkRead (a : Answer) (s : State) : State :=
  match received Config.chunkBytes a with
  | none => raiseFail .transport s
  | some b =>
    if chunkHold s.chunk then
      { s with stg := { s.stg with pixels := s.stg.pixels ++ b }, chunk := s.chunk + 1 }
    else
      { s with stg := { s.stg with pixels := s.stg.pixels ++ b },
               seq := if manualAck s.cf then .plAck else .plValidate }

/-- Step 6, frame-ready acknowledgement answered (R240). -/
def frameAcked (a : Answer) (s : State) : State :=
  if wrote a then { s with seq := .plValidate } else raiseFail .transport s

/-- Step 6, validity check (R241, R242). -/
def validateFrame (s : State) : State :=
  if validates s.cf && !frameValid (decOverview s.stg.overview) then raiseFail .invalidFrame s
  else { s with seq := .plPublish }

/-- Publish, all fields in one step (R243, 20_memory.md R80). -/
def publish (s : State) : State :=
  { s with frame := { sum := decOverview s.stg.overview, pix := decPixels s.stg.pixels,
                      subpage := (decRefresh s.stg.refresh).2 },
           framePresent := true,
           st := { s.st with button := byteAt s.stg.status2 0, alarm := byteAt s.stg.status2 1 } }

end Sys2Proof.Machine
end

