-- ==== Sys2Proof/Machine/Sequencer.lean ====
section
/-!
DEFINITION. The sequencer (10_state.md R40, 60_exceptions.md R322): what it does in each state when no request is
outstanding, and when the outstanding request is answered; and the run of an operation until it ends or waits.
-/

namespace Sys2Proof.Machine

/-- Who called the identification; its `_EXIT` state returns there (R322 (c)). -/
inductive Caller where
  /-- The `IDENTIFY` command: the command ends (42_identify.md R170). -/
  | command
  /-- The retry loop of `BEGIN` (42_identify.md R176). -/
  | retryLoop
  /-- `EnsureIdentified` of a Config Writer command (43_config_writer.md R191). -/
  | writer
  deriving DecidableEq, Repr

/-- What one command adds to the shared sequencer. It is no part of State: it is computed from `cur`. -/
structure Plan where
  /-- The checks before the first sequencer state, in the order of 60_exceptions.md R313. -/
  check : State → Option Cause
  /-- The first sequencer state (10_state.md R40). -/
  first : Seq
  /-- Who called the identification. -/
  caller : Caller
  /-- The lines of BG_INIT (42_identify.md R175). -/
  init : State → State
  /-- The field assignments of WR_MUTATE, for a mutator (43_config_writer.md R196). -/
  update : Option (State → State)
  /-- The block WR_WRITE sends (43_config_writer.md R193). -/
  block : Block
  /-- The lines after a successful block write (43_config_writer.md R205). -/
  commit : State → State

/-- Where a writer goes when identified: WR_MUTATE for a mutator, else WR_CLK (R322 (a)). -/
def afterEnsure (p : Plan) : Seq := if p.update.isSome then .wrMutate else .wrClk

/-- ID_EXIT answered: the identification hands its result to its caller (42_identify.md R172, R322 (c)). -/
def identReturned (p : Plan) (s : State) : State :=
  match p.caller with
  | .command => endWith 0 s
  | .retryLoop => attemptReturned s
  | .writer => if s.outcome = .none then { s with seq := afterEnsure p } else endFail s.outcome s

/-- One sequencer state with no request outstanding: it issues its request, or runs its lines and moves on. -/
def advance (p : Plan) (s : State) : State :=
  match s.seq with
  | .idle => s
  | .idClk => issue .clkGet s
  | .idRead => issue (.wrRd s.busAddr Config.idxStatus Config.identReadLen false) s
  | .idCheck => identCheck s
  | .idExit => issue (.clkSet s.savedClock) s
  | .bgInit => { p.init s with seq := .idClk }
  | .bgDelay => issue (.delay Config.retryDelayMs) s
  | .bgDone => endWith (s.retry.setWidth 32) s
  | .wrEnsure => { s with seq := if s.ident then afterEnsure p else .idClk }
  | .wrMutate => { p.update.getD id s with seq := .wrClk }
  | .wrClk => issue .clkGet s
  | .wrWrite => issue (blockRequest p.block s) s
  | .wrExit => issue (.clkSet s.savedClock) s
  | .plClk => issue .clkGet s
  | .plStatus => issue (.wrRd s.busAddr Config.idxStatus Config.statusReadLen false) s
  | .plBtnack => issue (.wr s.busAddr Config.idxStatus [byteAt s.stg.status2 0]) s
  | .plRefresh => issue (.wrRd s.busAddr Config.idxRefresh Config.refreshSize false) s
  | .plOverview => issue (.wrRd s.busAddr Config.idxOverview Config.overviewSize true) s
  | .plPixel => issue (.rdMore s.busAddr Config.chunkBytes (chunkHold s.chunk)) s
  | .plAck => issue (.wr s.busAddr Config.idxRefresh Config.ackPayload) s
  | .plValidate => validateFrame s
  | .plPublish => { publish s with outcome := .none, seq := .plExit }
  | .plExit => issue (.clkSet s.savedClock) s
  | .cq => endOk (scaledClock s) s

/-- The opening of a clock bracket (20_memory.md R84): `ClkGet` answered saves the clock and sets the operation
clock; `ClkSet` answered enters the bracket. -/
def bracketOpened (opClock : Clock) (nxt : Seq) (r : BusRequest) (a : Answer) (s : State) : State :=
  match r with
  | .clkGet => issue (.clkSet opClock) { s with savedClock := a.hz }
  | _ => { s with seq := nxt }

/-- One sequencer state whose request `r` has been answered by `a`. The states without a request wait for
nothing and never come here. -/
def respond (p : Plan) (r : BusRequest) (a : Answer) (s : State) : State :=
  match s.seq with
  | .idClk => bracketOpened s.baseClock .idRead r a s
  | .idRead => { s with snap := received Config.identReadLen a, seq := .idCheck }
  | .idExit => identReturned p s
  | .bgDelay => { s with seq := .idClk }
  | .wrClk => bracketOpened s.baseClock .wrWrite r a s
  | .wrWrite => blockWritten a s
  | .wrExit => writeFinished p.commit s
  | .plClk => bracketOpened (scaledClock s) .plStatus r a s
  | .plStatus => statusRead a s
  | .plBtnack => buttonAcked a s
  | .plRefresh => refreshRead a s
  | .plOverview => overviewRead a s
  | .plPixel => chunkRead a s
  | .plAck => frameAcked a s
  | .plExit => endWith 0 s
  | .idle | .idCheck | .bgInit | .bgDone | .wrEnsure | .wrMutate | .plValidate | .plPublish | .cq => s

/-- One step of the sequencer, or nothing: at IDLE, or while the outstanding request has no answer yet (20_memory.md
R60: the block "waits for its response before anything else happens"). The answer is the environment's next
event. -/
def seqStep (p : Plan) (s : State) : Option State :=
  if s.seq = .idle then none
  else
    match s.pending with
    | none => some (advance p s)
    | some r =>
      match s.env with
      | .answer a :: rest => some (respond p r a (settle r a { s with env := rest }))
      | _ => none

/-- Run the sequencer until the command ends or waits, at most `n` steps. -/
def run (p : Plan) : Nat → State → State
  | 0, s => s
  | n + 1, s =>
    match seqStep p s with
    | none => s
    | some t => run p n t

/-- More steps than any command can take: an attempt of `BEGIN` takes 10, and `retry` has 5 bits. -/
def fuel : Nat := 512

/-- Accept a command (30_encoding.md R102): `cur`, `busy`, the checks of R313, then the first state. -/
def accept (i : Instr) (p : Plan) (s : State) : State :=
  match p.check s with
  | some c => raiseFail c { s with cur := encodeCommand i, busy := true }
  | none => { s with cur := encodeCommand i, busy := true, seq := p.first }

/-- A command presented on the command port: accepted and run while `busy = 0` (R102); while `busy = 1` not
accepted, nothing changes (60_exceptions.md R307). -/
def command (i : Instr) (p : Plan) (s : State) : State :=
  if s.busy then s else run p fuel (accept i p s)

end Sys2Proof.Machine
end

