-- ==== Sys2Proof/Machine/Session.lean ====
section
/-!
DEFINITION. The session commands: `BEGIN` and `IDENTIFY` (42_identify.md), `CLKQ` (40_clock_scaler.md).
-/

namespace Sys2Proof.Machine

/-- `NO_SESSION` while `begun = 0` (60_exceptions.md R306). -/
def checkSession (s : State) : Option Cause := if s.begun then none else some .noSession

/-- `NO_SESSION`, then `NO_MIRROR` while `mirrors_loaded = 0` (60_exceptions.md R306, R313). -/
def checkMirrors (s : State) : Option Cause :=
  if s.begun then (if s.mirrorsLoaded then none else some .noMirror) else some .noSession

/-- A plan with nothing of its own but its check and its first state. -/
def plainPlan (check : State → Option Cause) (first : Seq) (caller : Caller) : Plan :=
  { check := check, first := first, caller := caller, init := id, update := none, block := .config, commit := id }

/-- `BEGIN addr8, hz` (R175, R176): the address check, then BG_INIT and the retry loop. -/
def planBegin (addr8 : Byte) (hz : Clock) : Plan :=
  { plainPlan (fun _ => if addrValid addr8 then none else some .badAddr) .bgInit .retryLoop with
    init := beginSessionInit addr8 hz }

/-- `IDENTIFY` (R170). -/
def planIdentify : Plan := plainPlan checkSession .idClk .command

/-- `CLKQ` (R133). -/
def planClkq : Plan := plainPlan checkMirrors .cq .command

/-- `BEGIN addr8, hz` (42_identify.md R175 to R178). -/
def execBegin (addr8 : Byte) (hz : Clock) (s : State) : Host.Outcome State Fault Refusal :=
  .next (command (.beginSession addr8 hz) (planBegin addr8 hz) s)

/-- `IDENTIFY` (42_identify.md R170). -/
def execIdentify (s : State) : Host.Outcome State Fault Refusal := .next (command .identify planIdentify s)

/-- `CLKQ` (40_clock_scaler.md R133). -/
def execClkq (s : State) : Host.Outcome State Fault Refusal := .next (command .clkq planClkq s)

end Sys2Proof.Machine
end

