-- ==== Sys2Proof/Machine/ConfigWriter.lean ====
section
/-!
DEFINITION. The Config Writer's whole-block commands and the mutators of the Config block (43_config_writer.md R190
to R206).
-/

namespace Sys2Proof.Machine

/-- A whole-block command: identify if needed, then write the block (R190, R195). -/
def writerPlan (b : Block) : Plan := { plainPlan checkSession .wrEnsure .writer with block := b }

/-- The mutator template on the Config block (R196). -/
def configMutator (f : ConfigRegs → ConfigRegs) : Plan :=
  { writerPlan .config with update := some (updateConfig f) }

/-- `WRCFG` (R190). -/
def planWrcfg : Plan := writerPlan .config

/-- `WRALM which` (R195). -/
def planWralm (which : Which) : Plan := writerPlan (.alarm which)

/-- `SETBUZEN v` (R197): `func_ctrl[0] <- v`. -/
def planSetbuzen (v : Bool) : Plan := configMutator fun c => { c with funcCtrl := putBit c.funcCtrl fcBuzzerEn v }

/-- `SETLEDEN v` (R198): `func_ctrl[1] <- v`. -/
def planSetleden (v : Bool) : Plan := configMutator fun c => { c with funcCtrl := putBit c.funcCtrl fcLedEn v }

/-- `SETMANACK v` (R199): `func_ctrl[2] <- v`. -/
def planSetmanack (v : Bool) : Plan :=
  configMutator fun c => { c with funcCtrl := putBit c.funcCtrl fcAutoclrDisable v }

/-- `SETRATE n` (R200). -/
def planSetrate (n : Byte) : Plan := configMutator fun c => { c with refreshRate := rateOperand n }

/-- `SETNOISE n` (R201): bits 7:4 kept. -/
def planSetnoise (n : Byte) : Plan := configMutator fun c => { c with noiseFilter := noiseOperand c.noiseFilter n }

/-- `SETAREA w, h` (R202): clamped, never rejected. -/
def planSetarea (w h : Byte) : Plan := configMutator fun c => { c with monitorArea := packArea w h }

/-- `SETALMEN v` (R203). -/
def planSetalmen (v : Byte) : Plan := configMutator fun c => { c with alarmEnable := v }

/-- `SETBUZ freq, vol` (R204). -/
def planSetbuz (freq : Half) (vol : Byte) : Plan :=
  configMutator fun c => { c with buzzerFreq := freq, buzzerVol := vol }

/-- `SETLED r, g, b` (R206). -/
def planSetled (r g b : Byte) : Plan := configMutator fun c => { c with ledR := r, ledG := g, ledB := b }

/-- `CHADDR v` (R205): the range check before everything that can touch the bus, the pair updated together, the
block sent to the old address, `bus_addr` changed after a successful write only. -/
def planChaddr (v : Byte) : Plan :=
  { configMutator (fun c => { c with addr := v, addrInv := addrChecksum v }) with
    check := fun s => if s.begun then (if addrValid v then none else some .badAddr) else some .noSession
    commit := fun s => { s with busAddr := addrLow v } }

/-- `WRCFG` (43_config_writer.md R190). -/
def execWrcfg (s : State) : Host.Outcome State Fault Refusal := .next (command .wrcfg planWrcfg s)

/-- `WRALM which` (43_config_writer.md R195). -/
def execWralm (which : Which) (s : State) : Host.Outcome State Fault Refusal :=
  .next (command (.wralm which) (planWralm which) s)

/-- `SETBUZEN v` (43_config_writer.md R197). -/
def execSetbuzen (v : Bool) (s : State) : Host.Outcome State Fault Refusal :=
  .next (command (.setbuzen v) (planSetbuzen v) s)

/-- `SETLEDEN v` (43_config_writer.md R198). -/
def execSetleden (v : Bool) (s : State) : Host.Outcome State Fault Refusal :=
  .next (command (.setleden v) (planSetleden v) s)

/-- `SETMANACK v` (43_config_writer.md R199). -/
def execSetmanack (v : Bool) (s : State) : Host.Outcome State Fault Refusal :=
  .next (command (.setmanack v) (planSetmanack v) s)

/-- `SETRATE n` (43_config_writer.md R200). -/
def execSetrate (n : Byte) (s : State) : Host.Outcome State Fault Refusal :=
  .next (command (.setrate n) (planSetrate n) s)

/-- `SETNOISE n` (43_config_writer.md R201). -/
def execSetnoise (n : Byte) (s : State) : Host.Outcome State Fault Refusal :=
  .next (command (.setnoise n) (planSetnoise n) s)

/-- `SETAREA w, h` (43_config_writer.md R202). -/
def execSetarea (w h : Byte) (s : State) : Host.Outcome State Fault Refusal :=
  .next (command (.setarea w h) (planSetarea w h) s)

/-- `SETALMEN v` (43_config_writer.md R203). -/
def execSetalmen (v : Byte) (s : State) : Host.Outcome State Fault Refusal :=
  .next (command (.setalmen v) (planSetalmen v) s)

/-- `SETBUZ freq, vol` (43_config_writer.md R204). -/
def execSetbuz (freq : Half) (vol : Byte) (s : State) : Host.Outcome State Fault Refusal :=
  .next (command (.setbuz freq vol) (planSetbuz freq vol) s)

/-- `SETLED r, g, b` (43_config_writer.md R206). -/
def execSetled (r g b : Byte) (s : State) : Host.Outcome State Fault Refusal :=
  .next (command (.setled r g b) (planSetled r g b) s)

/-- `CHADDR v` (43_config_writer.md R205). -/
def execChaddr (v : Byte) (s : State) : Host.Outcome State Fault Refusal :=
  .next (command (.chaddr v) (planChaddr v) s)

end Sys2Proof.Machine
end

