-- ==== Sys2Proof/Machine/AlarmWriter.lean ====
section
/-!
DEFINITION. The mutators of the Alarm blocks (43_config_writer.md R207 to R209).
-/

namespace Sys2Proof.Machine

/-- The mutator template on the selected Alarm block (R196). -/
def alarmMutator (which : Which) (f : Alarm → Alarm) : Plan :=
  { writerPlan (.alarm which) with update := some (updateAlarm which f) }

/-- `ALMTHR which, raw` (R207). -/
def planAlmthr (which : Which) (raw : Half) : Plan := alarmMutator which fun a => { a with threshold := raw }

/-- `ALMBUZ which, freq, interval` (R208): the interval raised to 5. -/
def planAlmbuz (which : Which) (freq : Half) (interval : Byte) : Plan :=
  alarmMutator which fun a => { a with buzzerFreq := freq, interval := clampInterval interval }

/-- `ALMLED which, r, g, b` (R209). -/
def planAlmled (which : Which) (r g b : Byte) : Plan :=
  alarmMutator which fun a => { a with ledR := r, ledG := g, ledB := b }

/-- `ALMTHR which, raw` (43_config_writer.md R207). -/
def execAlmthr (which : Which) (raw : Half) (s : State) : Host.Outcome State Fault Refusal :=
  .next (command (.almthr which raw) (planAlmthr which raw) s)

/-- `ALMBUZ which, freq, interval` (43_config_writer.md R208). -/
def execAlmbuz (which : Which) (freq : Half) (interval : Byte) (s : State) : Host.Outcome State Fault Refusal :=
  .next (command (.almbuz which freq interval) (planAlmbuz which freq interval) s)

/-- `ALMLED which, r, g, b` (43_config_writer.md R209). -/
def execAlmled (which : Which) (r g b : Byte) (s : State) : Host.Outcome State Fault Refusal :=
  .next (command (.almled which r g b) (planAlmled which r g b) s)

end Sys2Proof.Machine
end

