-- ==== Sys2Proof/Machine/Poller.lean ====
section
/-!
DEFINITION. The Telemetry Poller's one command, `POLL` (44_poll.md); its steps are in PollSteps.lean.
-/

namespace Sys2Proof.Machine

/-- `POLL`: admission, then PL_CLK (R230, R231). -/
def planPoll : Plan := plainPlan checkMirrors .plClk .command

/-- `POLL` (44_poll.md R230). -/
def execPoll (s : State) : Host.Outcome State Fault Refusal := .next (command .poll planPoll s)

end Sys2Proof.Machine
end

