-- ==== Sys2Proof/Machine/Query.lean ====
section
/-!
DEFINITION. The Accessor Layer (45_accessors.md): the seven queries, pure projections of the published state,
answered in one step, also while a command runs (R270).
-/

namespace Sys2Proof.Machine

/-- The byte of the mirror address space at a device offset, where there is one (R271, 20_memory.md R68 (c)). -/
def mirrorByte (addr : Byte) (s : State) : Option Byte :=
  if addr.toNat < 0x08 then (encStatus s.st)[addr.toNat]?
  else if addr.toNat < 0x18 then (encConfig s.cf)[addr.toNat - 0x08]?
  else if addr.toNat < 0x20 then none
  else if addr.toNat < 0x28 then (encAlarm s.al)[addr.toNat - 0x20]?
  else if addr.toNat < 0x30 then none
  else if addr.toNat < 0x38 then (encAlarm s.ah)[addr.toNat - 0x30]?
  else none

/-- The pixel at an index, or the sentinel out of range (R273). -/
def pixelOr (idx : BitVec 12) (s : State) : Half :=
  if h : idx.toNat < Config.pixels then s.frame.pix[idx.toNat] else Config.pixelSentinel

/-- The field of the summary a selector names, or the subpage, zero extended (R275). -/
def summaryField (sel : BitVec 4) (s : State) : Option (BitVec 32) :=
  match sel.toNat with
  | 0 => some (s.frame.sum.median.setWidth 32)
  | 1 => some (s.frame.sum.average.setWidth 32)
  | 2 => some (s.frame.sum.mostDiff.setWidth 32)
  | 3 => some (s.frame.sum.mostDiffX.setWidth 32)
  | 4 => some (s.frame.sum.mostDiffY.setWidth 32)
  | 5 => some (s.frame.sum.lowest.setWidth 32)
  | 6 => some (s.frame.sum.lowestX.setWidth 32)
  | 7 => some (s.frame.sum.lowestY.setWidth 32)
  | 8 => some (s.frame.sum.highest.setWidth 32)
  | 9 => some (s.frame.sum.highestX.setWidth 32)
  | 10 => some (s.frame.sum.highestY.setWidth 32)
  | 11 => some (s.frame.subpage.setWidth 32)
  | _ => none

/-- The raw value of the summary a selector names (R276). -/
def summaryRaw (sel : BitVec 4) (s : State) : Option Half :=
  match sel.toNat with
  | 0 => some s.frame.sum.median
  | 1 => some s.frame.sum.average
  | 2 => some s.frame.sum.mostDiff
  | 5 => some s.frame.sum.lowest
  | 8 => some s.frame.sum.highest
  | _ => none

/-- `sext_32(C128(raw))` (R274, R276, R282). -/
def celsiusWord (raw : Half) : BitVec 32 := BitVec.ofInt 32 (c128 raw)

/-- Answer a projection that exists only while `present` holds (R272). -/
def replyWhen (present : Bool) (v : Option (BitVec 32)) (s : State) : State :=
  match present, v with
  | true, some d => reply true d s
  | _, _ => replyInvalid s

/-- The five flags `QSTATE` shows (R278). -/
def stateWord (s : State) : BitVec 32 :=
  (BitVec.ofBool s.ident).setWidth 32 ||| (BitVec.ofBool s.mirrorsLoaded).setWidth 32 <<< 1 |||
    (BitVec.ofBool s.framePresent).setWidth 32 <<< 2 ||| (BitVec.ofBool s.busy).setWidth 32 <<< 3 |||
    (BitVec.ofBool s.begun).setWidth 32 <<< 4

/-- `QMIR addr` (45_accessors.md R271). -/
def execQmir (addr : Byte) (s : State) : Host.Outcome State Fault Refusal :=
  .next (replyWhen s.mirrorsLoaded ((mirrorByte addr s).map (BitVec.setWidth 32)) s)

/-- `QPIX idx` (45_accessors.md R273). -/
def execQpix (idx : BitVec 12) (s : State) : Host.Outcome State Fault Refusal :=
  .next (replyWhen s.framePresent (some ((pixelOr idx s).setWidth 32)) s)

/-- `QSUM sel` (45_accessors.md R275). -/
def execQsum (sel : BitVec 4) (s : State) : Host.Outcome State Fault Refusal :=
  .next (replyWhen s.framePresent (summaryField sel s) s)

/-- `QBTN bit` (45_accessors.md R277). -/
def execQbtn (bit : BitVec 3) (s : State) : Host.Outcome State Fault Refusal :=
  .next (replyWhen s.mirrorsLoaded
    (some ((BitVec.ofBool (s.st.button.getLsbD bit.toNat)).setWidth 32)) s)

/-- `QPIXC idx` (45_accessors.md R274). -/
def execQpixc (idx : BitVec 12) (s : State) : Host.Outcome State Fault Refusal :=
  .next (replyWhen s.framePresent (some (celsiusWord (pixelOr idx s))) s)

/-- `QSUMC sel` (45_accessors.md R276). -/
def execQsumc (sel : BitVec 4) (s : State) : Host.Outcome State Fault Refusal :=
  .next (replyWhen s.framePresent ((summaryRaw sel s).map celsiusWord) s)

/-- `QSTATE` (45_accessors.md R278). -/
def execQstate (s : State) : Host.Outcome State Fault Refusal := .next (reply true (stateWord s) s)

end Sys2Proof.Machine
end

