-- ==== Sys2Proof/Machine/Resume.lean ====
section
/-!
DEFINITION. What the environment's next event does to the block: an answer resumes the running command, whose
operation `cur` determines (10_state.md R41, 60_exceptions.md R322 (c)); an illegal word ends at once.
-/

namespace Sys2Proof.Machine

/-- The plan of a command; a query has none. -/
def planOf : Instr → Option Plan
  | .beginSession addr8 hz => some (planBegin addr8 hz)
  | .identify => some planIdentify
  | .poll => some planPoll
  | .clkq => some planClkq
  | .wrcfg => some planWrcfg
  | .wralm which => some (planWralm which)
  | .setbuzen v => some (planSetbuzen v)
  | .setleden v => some (planSetleden v)
  | .setmanack v => some (planSetmanack v)
  | .setrate n => some (planSetrate n)
  | .setnoise n => some (planSetnoise n)
  | .setarea w h => some (planSetarea w h)
  | .setalmen v => some (planSetalmen v)
  | .setbuz freq vol => some (planSetbuz freq vol)
  | .setled r g b => some (planSetled r g b)
  | .chaddr v => some (planChaddr v)
  | .almthr which raw => some (planAlmthr which raw)
  | .almbuz which freq interval => some (planAlmbuz which freq interval)
  | .almled which r g b => some (planAlmled which r g b)
  | .qmir _ | .qpix _ | .qsum _ | .qbtn _ | .qpixc _ | .qsumc _ | .qstate => none

/-- The plan of a command word. -/
def planOfWord (w : CommandWord) : Option Plan :=
  match decodeCommand w with
  | .ok i => planOf i
  | .error _ => none

/-- An answer has arrived: the running command goes on with it. At IDLE nothing asked for it, and it is dropped
(notes/assumptions/8.md). DESIGN CHOICE, unsafe: a late answer to a request that was outstanding at a reset
(70_reset_and_hazards.md R342) is dropped only at IDLE; once a new `BEGIN` has a request outstanding it is taken as the
answer to that one (notes/assumptions/21.md). The state still has the answer at the head of `env`. -/
def resume (s : State) : Host.Outcome State Fault Refusal :=
  if s.seq = .idle then .next { s with env := s.env.tail }
  else
    match planOfWord s.cur with
    | some p => .next (run p fuel s)
    | none => .fault .lostCommand

/-- A word that is no instruction (30_encoding.md R108, R109): an illegal command word ends at once while
`busy = 0` and is not accepted while `busy = 1` (60_exceptions.md R307); an illegal query is answered invalid. -/
def illegalWord (w : PortWord) (s : State) : State :=
  match w with
  | .command _ => if s.busy then s else illegalCommand s
  | .query _ => replyInvalid s

end Sys2Proof.Machine
end

