-- ==== Sys2Proof/Machine/Dispatch.lean ====
section
/-!
DEFINITION. One arm per constructor of `Instr`, each one direct call of its meaning.
-/

namespace Sys2Proof.Machine

def exec (i : Instr) (s : State) : Host.Outcome State Fault Refusal :=
  match i with
  | .beginSession addr8 hz => Sys2Proof.Machine.execBegin addr8 hz s
  | .identify => Sys2Proof.Machine.execIdentify s
  | .poll => Sys2Proof.Machine.execPoll s
  | .clkq => Sys2Proof.Machine.execClkq s
  | .wrcfg => Sys2Proof.Machine.execWrcfg s
  | .wralm which => Sys2Proof.Machine.execWralm which s
  | .setbuzen v => Sys2Proof.Machine.execSetbuzen v s
  | .setleden v => Sys2Proof.Machine.execSetleden v s
  | .setmanack v => Sys2Proof.Machine.execSetmanack v s
  | .setrate n => Sys2Proof.Machine.execSetrate n s
  | .setnoise n => Sys2Proof.Machine.execSetnoise n s
  | .setarea w h => Sys2Proof.Machine.execSetarea w h s
  | .setalmen v => Sys2Proof.Machine.execSetalmen v s
  | .setbuz freq vol => Sys2Proof.Machine.execSetbuz freq vol s
  | .setled r g b => Sys2Proof.Machine.execSetled r g b s
  | .chaddr v => Sys2Proof.Machine.execChaddr v s
  | .almthr which raw => Sys2Proof.Machine.execAlmthr which raw s
  | .almbuz which freq interval => Sys2Proof.Machine.execAlmbuz which freq interval s
  | .almled which r g b => Sys2Proof.Machine.execAlmled which r g b s
  | .qmir addr => Sys2Proof.Machine.execQmir addr s
  | .qpix idx => Sys2Proof.Machine.execQpix idx s
  | .qsum sel => Sys2Proof.Machine.execQsum sel s
  | .qbtn bit => Sys2Proof.Machine.execQbtn bit s
  | .qpixc idx => Sys2Proof.Machine.execQpixc idx s
  | .qsumc sel => Sys2Proof.Machine.execQsumc sel s
  | .qstate => Sys2Proof.Machine.execQstate s

end Sys2Proof.Machine
end

