-- ==== Sys2Proof/Machine/Step.lean ====
section
/-!
DEFINITION. One step of the machine: the environment's next event (00_scope.md R9). A presented word is taken off,
decoded and executed; an answer resumes the running command; reset resets; with no event the block stays as it
is (70_reset_and_hazards.md R340: it waits at IDLE, or for its outstanding answer).
-/

namespace Sys2Proof.Machine

/-- One step of the block. -/
def step (s : State) : Host.Outcome State Fault Refusal :=
  match s.env with
  | [] => .next s
  | .port w :: rest =>
    match decode w with
    | .ok i => exec i { s with env := rest }
    | .error _ => .next (illegalWord w { s with env := rest })
  | .answer _ :: _ => resume s
  | .reset :: rest => .next (resetBlock { s with env := rest })

/-- The state with the word of a table row presented next: on the query port when the row has at most 16 bits,
else on the command port. A command is accepted only while `busy = 0` (R102), which holds after reset. -/
def State.withFetchWord (s : State) (nbits w : Nat) : State :=
  { s with env := .port (tablePortWord nbits w) :: s.env }

end Sys2Proof.Machine
end

