-- ==== Sys2Proof/Machine/SourceNames.lean ====
section
/-!
DEFINITION. The function names of the source and the command each stands for (30_encoding.md R115). They are no
encodings of their own.
-/

namespace Sys2Proof.Machine

/-- `begin` with the default address (R115). -/
def sourceBeginDefault (hz : Clock) : Instr := .beginSession (Config.defaultAddr.setWidth 8) hz

/-- `begin` (R115). -/
def sourceBegin (addr8 : Byte) (hz : Clock) : Instr := .beginSession addr8 hz

/-- `identify(session)` (R115). -/
def sourceIdentify : Instr := .identify

/-- `poll(session)` (R115). -/
def sourcePoll : Instr := .poll

/-- `writeConfig(session)` (R115). -/
def sourceWriteConfig : Instr := .wrcfg

/-- `writeAlarm(session, which)` (R115). -/
def sourceWriteAlarm (which : Which) : Instr := .wralm which

/-- `setMonitorArea(w, h)` (R115). -/
def sourceSetMonitorArea (w h : Byte) : Instr := .setarea w h

/-- `changeI2CAddr(a)` (R115). -/
def sourceChangeAddr (a : Byte) : Instr := .chaddr a

/-- A setter of an alarm threshold in degrees Celsius: the host converts (R115, 43_config_writer.md R207). -/
def sourceSetThreshold (which : Which) (celsius : ℚ) : Instr := .almthr which (celsiusToRaw celsius)

end Sys2Proof.Machine
end

