-- ==== Sys2Proof/Safety.lean ====
section
/-!
DEFINITION. The terms the claims use: when the block is ready, what it publishes, which requests it may make
(20_memory.md R73), which sequencer states an operation has (10_state.md R40), and the invariant of a session
(10_state.md R30, R47, 60_exceptions.md R320, R321).
-/

namespace Sys2Proof.Machine

/-- The block waits for a command (10_state.md R40): IDLE, no request outstanding, the bus free. -/
structure Ready (s : State) : Prop where
  busy : s.busy = false
  seq : s.seq = .idle
  pending : s.pending = none
  holding : s.holding = false

/-- The block has issued a request whose answer is not the environment's next event (20_memory.md R60). -/
def Waiting (s : State) : Prop :=
  s.busy = true ∧ s.pending ≠ none ∧ ∀ a rest, s.env ≠ .answer a :: rest

/-- Between two steps the block is at IDLE or has a request outstanding (20_memory.md R60): the states without a
request are passed within one step. -/
def Settled (s : State) : Prop := s.seq = .idle ∨ s.pending ≠ none

/-- The published state, which queries see (45_accessors.md R270). -/
structure Published where
  st : Status
  cf : ConfigRegs
  al : Alarm
  ah : Alarm
  frame : Frame
  ident : Bool
  begun : Bool
  mirrorsLoaded : Bool
  framePresent : Bool
  busy : Bool
  deriving DecidableEq, Repr

/-- What the query port can see of a state (45_accessors.md R270). -/
def published (s : State) : Published :=
  { st := s.st, cf := s.cf, al := s.al, ah := s.ah, frame := s.frame, ident := s.ident, begun := s.begun,
    mirrorsLoaded := s.mirrorsLoaded, framePresent := s.framePresent, busy := s.busy }

/-- The bus transactions of the access table (20_memory.md R73): no other index or length ever appears. -/
def listedAccess : BusRequest → Bool
  | .wrRd _ idx n hold =>
    (idx == 0x00#8 && n == 56 && !hold) || (idx == 0x00#8 && n == 2 && !hold) ||
      (idx == 0x6E#8 && n == 2 && !hold) || (idx == 0x70#8 && n == 16 && hold)
  | .rdMore _ n _ => n == 128
  | .wr _ idx v =>
    (idx == 0x08#8 && v.length == 16) || (idx == 0x20#8 && v.length == 8) ||
      (idx == 0x30#8 && v.length == 8) || (idx == 0x00#8 && v.length == 1) || (idx == 0x6E#8 && v == [0x00#8])
  | .clkGet | .clkSet _ => true
  | .delay ms => ms == 16

/-- A transfer on the bus, as against a clock or delay request (20_memory.md R60). -/
def isTransfer : BusRequest → Bool
  | .wr _ _ _ | .wrRd _ _ _ _ | .rdMore _ _ _ => true
  | .clkGet | .clkSet _ | .delay _ => false

/-- Named hypothesis about the device (20_memory.md R90): it accepts a Config write only when the address pair is
self-consistent. No rule of the block relies on it. -/
def selfConsistent (payload : List Byte) : Bool := byteAt payload 1 == ~~~byteAt payload 0

/-- The states of the identification operation (10_state.md R40). -/
def identStates : List Seq := [.idClk, .idRead, .idCheck, .idExit]

/-- The states of a block write (10_state.md R40). -/
def writeStates : List Seq := [.wrClk, .wrWrite, .wrExit]

/-- The states of a poll (10_state.md R40). -/
def pollStates : List Seq :=
  [.plClk, .plStatus, .plBtnack, .plRefresh, .plOverview, .plPixel, .plAck, .plValidate, .plPublish, .plExit]

/-- The sequencer states an operation walks (10_state.md R40): WR_MUTATE is of mutators only. -/
def statesOf : Instr → List Seq
  | .beginSession _ _ => [.bgInit, .bgDelay, .bgDone] ++ identStates
  | .identify => identStates
  | .poll => pollStates
  | .clkq => [.cq]
  | .wrcfg | .wralm _ => [.wrEnsure] ++ identStates ++ writeStates
  | .setbuzen _ | .setleden _ | .setmanack _ | .setrate _ | .setnoise _ | .setarea _ _ | .setalmen _ | .setbuz _ _
  | .setled _ _ _ | .chaddr _ | .almthr _ _ | .almbuz _ _ _ | .almled _ _ _ _ =>
    [.wrEnsure, .wrMutate] ++ identStates ++ writeStates
  | .qmir _ | .qpix _ | .qsum _ | .qbtn _ | .qpixc _ | .qsumc _ | .qstate => []

/-- The address operand, where a command has one, passed its range check (60_exceptions.md R303). -/
def addressChecked : Instr → Bool
  | .beginSession addr8 _ => addrValid addr8
  | .chaddr v => addrValid v
  | _ => true

/-- The states in which a Config Writer command is past `EnsureIdentified` (43_config_writer.md R192: `WriteBlock`
is always entered with `ident = Identified`). -/
def afterEnsureStates : List Seq := [.wrMutate, .wrClk, .wrWrite, .wrExit]

/-- The outstanding request is one the sequencer state issues (10_state.md R30, R40, 20_memory.md R73): a transfer to
`bus_addr`, the operation's clock at the opening of a bracket, the saved clock at its end (20_memory.md R84). -/
def requestFits (s : State) (r : BusRequest) : Bool :=
  match s.seq, r with
  | .idClk, .clkGet | .wrClk, .clkGet | .plClk, .clkGet => true
  | .idClk, .clkSet h | .wrClk, .clkSet h => h == s.baseClock
  | .plClk, .clkSet h => h == scaledClock s
  | .idExit, .clkSet h | .wrExit, .clkSet h | .plExit, .clkSet h => h == s.savedClock
  | .bgDelay, .delay ms => ms == 16
  | .idRead, .wrRd a idx n hold => a == s.busAddr && idx == 0x00#8 && n == 56 && !hold
  | .wrWrite, .wr a _ _ => a == s.busAddr
  | .plStatus, .wrRd a idx n hold => a == s.busAddr && idx == 0x00#8 && n == 2 && !hold
  | .plBtnack, .wr a idx v => a == s.busAddr && idx == 0x00#8 && v == [byteAt s.stg.status2 0]
  | .plRefresh, .wrRd a idx n hold => a == s.busAddr && idx == 0x6E#8 && n == 2 && !hold
  | .plOverview, .wrRd a idx n hold => a == s.busAddr && idx == 0x70#8 && n == 16 && hold
  | .plPixel, .rdMore a n hold => a == s.busAddr && n == 128 && hold == decide (s.chunk.val < 5)
  | .plAck, .wr a idx v => a == s.busAddr && idx == 0x6E#8 && v == [0x00#8]
  | _, _ => false

/-- The invariant of the block. -/
structure Inv (s : State) : Prop where
  /-- `busy` is 1 from the acceptance of a command to its end (10_state.md R34, R40). -/
  busyIff : s.busy = true ↔ s.seq ≠ .idle
  /-- The outstanding request belongs to the sequencer state; none is outstanding at IDLE (20_memory.md R60). -/
  pendingFits : ∀ r, s.pending = some r → requestFits s r = true
  /-- The outstanding request is the last one issued (20_memory.md R60). -/
  pendingLast : ∀ r, s.pending = some r → s.busLog.getLast? = some r
  /-- The bus is held between two requests only in the pixel read (10_state.md R43, 20_memory.md R79). -/
  holdingIff : s.holding = true ↔ s.seq = .plPixel
  /-- The sequencer is in a state of the operation `cur` names, whose address operand was checked (10_state.md
  R40, R41, 60_exceptions.md R303). -/
  running : s.seq ≠ .idle →
    ∃ i, decodeCommand s.cur = .ok i ∧ s.seq ∈ statesOf i ∧ addressChecked i = true
  /-- Past its admission an operation has a session (60_exceptions.md R306). -/
  session : s.seq ≠ .idle → s.seq ≠ .bgInit → s.begun = true
  /-- A poll and a clock query run only with loaded mirrors (44_poll.md R231, 40_clock_scaler.md R133). -/
  mirrorsForPoll : s.seq ∈ Seq.cq :: pollStates → s.mirrorsLoaded = true
  /-- The block never holds an address outside 0x08 to 0x77 (10_state.md R30). -/
  address : 0x08 ≤ s.busAddr.toNat ∧ s.busAddr.toNat ≤ 0x77
  /-- Identified only with mirrors (60_exceptions.md R321). -/
  identLoaded : s.ident = true → s.mirrorsLoaded = true
  /-- Loaded mirrors come from a matching snapshot of a session (10_state.md R33, R47 (b)). -/
  loaded : s.mirrorsLoaded = true →
    s.begun = true ∧ s.st.id0 = Config.id0Const ∧ s.st.id1 = Config.id1Const
  /-- A published frame is valid (10_state.md R47 (a)). -/
  frameOk : s.framePresent = true → s.begun = true ∧ s.frame.sum.lowest < s.frame.sum.highest
  /-- A block write is made while Identified (43_config_writer.md R192). -/
  identForWrite : s.seq ∈ afterEnsureStates → s.ident = true
  /-- The identification that closes its bracket without a failure has matched (42_identify.md R172). -/
  identExit : s.seq = .idExit → s.outcome = .none → s.ident = true
  /-- Staging is filled before it is read (10_state.md R38). -/
  staged2 : s.seq ∈ [Seq.plBtnack, .plRefresh, .plOverview, .plPixel, .plAck, .plValidate, .plPublish] →
    s.stg.status2.length = 2
  staged3 : s.seq ∈ [Seq.plOverview, .plPixel, .plAck, .plValidate, .plPublish] →
    s.stg.refresh.length = 2 ∧ frameReady (byteAt s.stg.refresh 0) = true
  staged4 : s.seq ∈ [Seq.plPixel, .plAck, .plValidate, .plPublish] → s.stg.overview.length = 16
  stagedChunk : s.seq = .plPixel → s.stg.pixels.length = 128 * s.chunk.val
  staged5 : s.seq ∈ [Seq.plAck, .plValidate, .plPublish] → s.stg.pixels.length = 768
  /-- Only a frame that passed the validity check is published (44_poll.md R241, R243). -/
  checked : s.seq = .plPublish → frameValid (decOverview s.stg.overview) = true
  /-- The result registers (10_state.md R34, 60_exceptions.md R300). -/
  okCause : s.resOk = true → s.resCause = .none
  failValue : s.resOk = false → s.resValue = 0
  /-- `retry` counts 0 to 16 (10_state.md R41), and an attempt of `BEGIN` runs only while one remains
  (42_identify.md R176). -/
  retryBound : s.retry.toNat ≤ 16
  retryLive : ∀ addr8 hz, decodeCommand s.cur = .ok (.beginSession addr8 hz) →
    s.seq ∈ Seq.bgDelay :: identStates → s.retry ≠ 0

/-- The events that answer requests one after another. -/
def answers (as : List Answer) : List Event := as.map .answer

/-- The answers of one failed attempt of `BEGIN` and of the delay after it (42_identify.md R176): `ClkGet`,
`ClkSet`, the snapshot read, the closing `ClkSet`, `Delay`. -/
structure Attempt where
  get : Answer
  set : Answer
  read : Answer
  restore : Answer
  wait : Answer
  deriving DecidableEq, Repr

/-- The snapshot an answer to the identification read brings, when it is accepted (42_identify.md R171, R172). -/
def identifies (a : Answer) : Prop :=
  a.ok = true ∧ a.data.length = 56 ∧ byteAt a.data 4 = Config.id0Const ∧ byteAt a.data 5 = Config.id1Const

/-- The cause a failed attempt has (42_identify.md R172). -/
def attemptCause (a : Answer) : Cause :=
  if a.ok = true ∧ a.data.length = 56 then .identMismatch else .transport

/-- The events of attempts with a delay after each. -/
def attemptEvents : List Attempt → List Event
  | [] => []
  | t :: ts => answers [t.get, t.set, t.read, t.restore, t.wait] ++ attemptEvents ts

/-- The bus requests of attempts with a delay after each (42_identify.md R176). -/
def attemptRequests (a : BusAddr) (hz : Clock) : List Attempt → List BusRequest
  | [] => []
  | t :: ts => [.clkGet, .clkSet hz, .wrRd a 0x00 56 false, .clkSet t.get.hz, .delay 16] ++ attemptRequests a hz ts

end Sys2Proof.Machine
end

