-- ==== Sys2Proof/Certificates/Slice0/Obligations.lean ====
section
/-!
DEFINITION. The statements for the provers, and the end states they name. Each follows numbered rules of spec/
(OBLIGATIONS.json cites them).
-/

namespace Sys2Proof.Machine

/-! ## End states the statements name -/

/-- The result registers of a success (60_exceptions.md R311). -/
def withOk (i : Instr) (value : BitVec 32) (s : State) : State :=
  { s with cur := encodeCommand i, resOk := true, resCause := .none, resValue := value }

/-- The result registers of a failure; staging is discarded (60_exceptions.md R310). -/
def withFail (i : Instr) (c : Cause) (s : State) : State :=
  { s with cur := encodeCommand i, resOk := false, resCause := c, resValue := 0, stg := Staging.empty }

/-- One clock bracket around one transfer: `ClkGet`, `ClkSet` of the operation clock, the transfer, the restore of
the clock that `g` reported (20_memory.md R84). -/
def bracketed (hz : Clock) (transfer : BusRequest) (g : Answer) (rest : List Event) (s : State) : State :=
  { s with savedClock := g.hz, env := rest,
           busLog := s.busLog ++ [.clkGet, .clkSet hz, transfer, .clkSet g.hz] }

/-- A Config Writer command may run: the block is ready, a session exists, the tracker says Identified, and the
next four events answer `ClkGet`, `ClkSet`, the block write and the closing `ClkSet` (43_config_writer.md R212). -/
structure WriterReady (g c w e : Answer) (rest : List Event) (s : State) : Prop where
  ready : Ready s
  begun : s.begun = true
  ident : s.ident = true
  events : s.env = answers [g, c, w, e] ++ rest

/-- The end of a Config Writer command whose block write was acknowledged; `s` has the command's update already
(43_config_writer.md R192, R196). -/
def blockSent (i : Instr) (idx : Byte) (payload : List Byte) (g : Answer) (rest : List Event) (s : State) : State :=
  withOk i 0 { bracketed s.baseClock (.wr s.busAddr idx payload) g rest s with outcome := .none }

/-- The end of a Config mutator whose write was acknowledged: the mirror is `c'`, its whole encoding went out. -/
def configSent (i : Instr) (c' : ConfigRegs) (g : Answer) (rest : List Event) (s : State) : State :=
  blockSent i 0x08 (encConfig c') g rest { s with cf := c' }

/-- The end of a mutator of the Alarm block `which` whose write was acknowledged. -/
def alarmSent (i : Instr) (which : Which) (a' : Alarm) (g : Answer) (rest : List Event) (s : State) : State :=
  match which with
  | .lo => blockSent i 0x20 (encAlarm a') g rest { s with al := a' }
  | .hi => blockSent i 0x30 (encAlarm a') g rest { s with ah := a' }

/-- A command of the Config Writer (43_config_writer.md). -/
def isWriter : Instr → Bool
  | .wrcfg | .wralm _ | .setbuzen _ | .setleden _ | .setmanack _ | .setrate _ | .setnoise _ | .setarea _ _
  | .setalmen _ | .setbuz _ _ | .setled _ _ _ | .chaddr _ | .almthr _ _ | .almbuz _ _ _ | .almled _ _ _ _ => true
  | _ => false

/-- The state after the identification bracket of a snapshot read answered by `r` (42_identify.md R171, R172):
the tracker and the mirrors are the caller's to set. -/
def identBracket (g r : Answer) (rest : List Event) (s : State) : State :=
  { bracketed s.baseClock (.wrRd s.busAddr 0x00 56 false) g rest s with snap := received 56 r }

/-- The mirrors of the snapshot `b` (42_identify.md R172, 41_codec.md R153). -/
def withSnapshot (b : List Byte) (s : State) : State :=
  { s with st := (splitSnapshot b).1, cf := (splitSnapshot b).2.1, al := (splitSnapshot b).2.2.1,
           ah := (splitSnapshot b).2.2.2, ident := true, mirrorsLoaded := true, outcome := .none }

/-- The answer a query gets (30_encoding.md R106): `none` is the invalid one. -/
def answered (v : Option (BitVec 32)) (s : State) : State := { s with qvalid := v.isSome, qdata := v.getD 0 }

/-- A poll may run (44_poll.md R231). -/
structure PollReady (s : State) : Prop where
  ready : Ready s
  begun : s.begun = true
  loaded : s.mirrorsLoaded = true

/-- An answer that brings exactly `n` bytes (20_memory.md R62). -/
def brings (n : Nat) (a : Answer) : Prop := a.ok = true ∧ a.data.length = n

/-- Bit 0 aside, the button byte has a bit set (44_poll.md R234). -/
def edgeSet (b : Byte) : Bool := b.toNat / 2 != 0

/-- The bus requests of a poll up to and including the refresh-control read, `b` the button byte (44_poll.md
R246). -/
def pollHead (a : BusAddr) (hz : Clock) (b : Byte) : List BusRequest :=
  [.clkGet, .clkSet hz, .wrRd a 0x00 2 false] ++ (if edgeSet b then [.wr a 0x00 [b]] else []) ++
    [.wrRd a 0x6E 2 false]

/-- The answers to those requests. -/
def pollHeadAnswers (g c st wb rf : Answer) : List Answer :=
  [g, c, st] ++ (if edgeSet (byteAt st.data 0) then [wb] else []) ++ [rf]

/-- The requests of the whole of a poll's reads after the refresh-control read (44_poll.md R246). -/
def pollBody (a : BusAddr) (manual : Bool) : List BusRequest :=
  [.wrRd a 0x70 16 true] ++ List.replicate 5 (.rdMore a 128 true) ++ [.rdMore a 128 false] ++
    (if manual then [.wr a 0x6E [0x00]] else [])

/-- The answers to those requests: overview, six chunks, acknowledgement in the manual mode. -/
def pollBodyAnswers (manual : Bool) (ov p0 p1 p2 p3 p4 p5 ack : Answer) : List Answer :=
  [ov, p0, p1, p2, p3, p4, p5] ++ (if manual then [ack] else [])

/-- Every read of a poll is complete and every write acknowledged, and the frame is ready (44_poll.md R233 to
R240). -/
structure PollAnswered (st wb rf ov p0 p1 p2 p3 p4 p5 ack : Answer) : Prop where
  status : brings 2 st
  writeBack : wb.ok = true
  refresh : brings 2 rf
  frameReady : (byteAt rf.data 0).toNat % 2 = 1
  overview : brings 16 ov
  chunk0 : brings 128 p0
  chunk1 : brings 128 p1
  chunk2 : brings 128 p2
  chunk3 : brings 128 p3
  chunk4 : brings 128 p4
  chunk5 : brings 128 p5
  acked : ack.ok = true

/-- The 16-bit value of two bytes, the first the less significant (20_memory.md R71). -/
def halfOf (lo hi : Byte) : Half := BitVec.ofNat 16 (lo.toNat + 256 * hi.toNat)

/-- The two bytes of a 16-bit value in bus order (20_memory.md R71). -/
def bytesOf (v : Half) : List Byte := [BitVec.ofNat 8 v.toNat, BitVec.ofNat 8 (v.toNat / 256)]

/-- Nothing of what a poll publishes has changed from `s` to `t` (44_poll.md R245). -/
def PublishesNothing (s t : State) : Prop := t.frame = s.frame ∧ t.framePresent = s.framePresent ∧ t.st = s.st

/-- Everything a poll publishes has been replaced from `s` to `t` by the staged values of a complete, ready and valid
frame; the other fields of the Status mirror are kept (44_poll.md R243). -/
structure PublishesAll (s t : State) : Prop where
  status2 : t.stg.status2.length = 2
  refresh : t.stg.refresh.length = 2
  overview : t.stg.overview.length = 16
  pixels : t.stg.pixels.length = 768
  ready : (byteAt t.stg.refresh 0).toNat % 2 = 1
  valid : (le16 t.stg.overview 8).toNat < (le16 t.stg.overview 12).toNat
  frame : t.frame = { sum := decOverview t.stg.overview, pix := decPixels t.stg.pixels,
                      subpage := byteAt t.stg.refresh 1 }
  present : t.framePresent = true
  st : t.st = { s.st with button := byteAt t.stg.status2 0, alarm := byteAt t.stg.status2 1 }

/-- What no poll changes: the tracker, the other three mirrors, the session (44_poll.md R239, R244). -/
structure SessionKept (s t : State) : Prop where
  ident : t.ident = s.ident
  cf : t.cf = s.cf
  al : t.al = s.al
  ah : t.ah = s.ah
  busAddr : t.busAddr = s.busAddr
  baseClock : t.baseClock = s.baseClock
  begun : t.begun = s.begun
  mirrorsLoaded : t.mirrorsLoaded = s.mirrorsLoaded

/-- The poll presented to `s` ends in this step with `TRANSPORT`: the bus free, nothing published, the events `rest`
left, exactly the requests `traffic` issued (44_poll.md R245, 60_exceptions.md R302 (c)). -/
def PollFailsWith (traffic : List BusRequest) (rest : List Event) (s : State) : Prop :=
  ∃ t, exec .poll s = .next t ∧ Ready t ∧ t.resOk = false ∧ t.resCause = .transport ∧ t.resValue = 0 ∧
    published t = published s ∧ t.env = rest ∧ t.busLog = s.busLog ++ traffic

/-- A command that can move the tracker (60_exceptions.md R320). -/
def movesTracker (i : Instr) : Prop := (∃ a hz, i = .beginSession a hz) ∨ i = .identify ∨ isWriter i = true

end Sys2Proof.Machine

open Sys2Proof Sys2Proof.Machine

/-! ## Encodings -/

/-- Decoding the word of a well-formed command gives it back, every operand at every value. -/
def Obligations.DecodeEncodeCommand : Prop :=
  ∀ i : Instr, i.isCommand = true → i.wellFormed = true → decodeCommand (encodeCommand i) = .ok i

/-- Every legal command word is the word of a well-formed command. -/
def Obligations.EncodeDecodeCommand : Prop :=
  ∀ (w : CommandWord) (i : Instr), decodeCommand w = .ok i →
    i.isCommand = true ∧ i.wellFormed = true ∧ encodeCommand i = w

/-- Queries and their words correspond one to one. -/
def Obligations.QueryEncodingRoundTrip : Prop :=
  (∀ i : Instr, i.isCommand = false → decodeQuery (encodeQuery i) = .ok i) ∧
  (∀ (q : QueryWord) (i : Instr), decodeQuery q = .ok i → i.isCommand = false ∧ encodeQuery i = q)

/-- A command word is legal exactly when it is a row's of the opcode map (R104, R109). -/
def Obligations.CommandLegalIffRow : Prop :=
  ∀ w : CommandWord, (∃ i, decodeCommand w = .ok i) ↔ ∃ r ∈ commandRows, r.matches w = true

/-- A query word is legal exactly when it is a row's of the query map (R107, R108). -/
def Obligations.QueryLegalIffRow : Prop :=
  ∀ q : QueryWord, (∃ i, decodeQuery q = .ok i) ↔ ∃ r ∈ queryRows, r.matches q = true

/-- The worked encodings of R116. -/
def Obligations.WorkedEncodingsDecode : Prop :=
  decodeCommand 0x0132000186A0#48 = .ok (.beginSession 0x32 100000) ∧
  decodeCommand 0x020000000000#48 = .ok .identify ∧
  decodeCommand 0x030000000000#48 = .ok .poll ∧
  decodeCommand 0x110000000001#48 = .ok (.wralm .hi) ∧
  decodeCommand 0x220000000001#48 = .ok (.setmanack true) ∧
  decodeCommand 0x230000000006#48 = .ok (.setrate 6) ∧
  decodeCommand 0x250000001414#48 = .ok (.setarea 20 20) ∧
  decodeCommand 0x270000800FA0#48 = .ok (.setbuz 4000 128) ∧
  decodeCommand 0x280000FF0010#48 = .ok (.setled 255 0 16) ∧
  decodeCommand 0x290000000040#48 = .ok (.chaddr 0x40) ∧
  decodeCommand 0x300000002A00#48 = .ok (.almthr .lo 10752) ∧
  decodeCommand 0x300000012F00#48 = .ok (.almthr .hi 12032) ∧
  decodeCommand 0x3100010307D0#48 = .ok (.almbuz .hi 2000 3) ∧
  decodeCommand 0x320000010203#48 = .ok (.almled .lo 1 2 3) ∧
  decodeQuery 0x0011#16 = .ok (.qmir 0x11) ∧
  decodeQuery 0x117F#16 = .ok (.qpix 383) ∧
  decodeQuery 0x2008#16 = .ok (.qsum 8) ∧
  decodeQuery 0x3003#16 = .ok (.qbtn 3) ∧
  decodeQuery 0x6000#16 = .ok .qstate ∧
  decodeCommand 0x000000000000#48 = .error (.unusedOpcode 0x00) ∧
  decodeCommand 0x030000000001#48 = .error (.strayArgumentBit 0x03)

/-! ## Codec, scaler, conversion -/

/-- The byte layout of every block, byte by byte, in both directions, and the six round-trip laws (R141 to R151,
R154). A 16-bit field stands low byte first; nothing is masked or clamped. -/
def Obligations.CodecRoundTrip : Prop :=
  (∀ b : List Byte, b.length = 8 → encStatus (decStatus b) = b) ∧
  (∀ b : List Byte, b.length = 16 → encConfig (decConfig b) = b) ∧
  (∀ b : List Byte, b.length = 8 → encAlarm (decAlarm b) = b) ∧
  (∀ s : Status, decStatus (encStatus s) = s) ∧
  (∀ c : ConfigRegs, decConfig (encConfig c) = c) ∧
  (∀ a : Alarm, decAlarm (encAlarm a) = a) ∧
  (∀ s : Status,
    encStatus s = [s.button, s.alarm, s.rsv0, s.rsv1, s.id0, s.id1, s.verMajor, s.verMinor]) ∧
  (∀ c : ConfigRegs,
    encConfig c = [c.addr, c.addrInv, c.funcCtrl, c.refreshRate, c.noiseFilter, c.rsv0, c.rsv1, c.rsv2,
      c.monitorArea, c.alarmEnable] ++ bytesOf c.buzzerFreq ++ [c.buzzerVol, c.ledR, c.ledG, c.ledB]) ∧
  (∀ a : Alarm,
    encAlarm a = bytesOf a.threshold ++ bytesOf a.buzzerFreq ++ [a.interval, a.ledR, a.ledG, a.ledB]) ∧
  (∀ b0 b1 b2 b3 b4 b5 b6 b7 : Byte,
    decStatus [b0, b1, b2, b3, b4, b5, b6, b7] =
      { button := b0, alarm := b1, rsv0 := b2, rsv1 := b3, id0 := b4, id1 := b5, verMajor := b6, verMinor := b7 } ∧
    decAlarm [b0, b1, b2, b3, b4, b5, b6, b7] =
      { threshold := halfOf b0 b1, buzzerFreq := halfOf b2 b3, interval := b4, ledR := b5, ledG := b6, ledB := b7 } ∧
    decRefresh [b0, b1] = (decide (b0.toNat % 2 = 1), b1)) ∧
  (∀ b0 b1 b2 b3 b4 b5 b6 b7 b8 b9 b10 b11 b12 b13 b14 b15 : Byte,
    decConfig [b0, b1, b2, b3, b4, b5, b6, b7, b8, b9, b10, b11, b12, b13, b14, b15] =
      { addr := b0, addrInv := b1, funcCtrl := b2, refreshRate := b3, noiseFilter := b4, rsv0 := b5, rsv1 := b6,
        rsv2 := b7, monitorArea := b8, alarmEnable := b9, buzzerFreq := halfOf b10 b11, buzzerVol := b12,
        ledR := b13, ledG := b14, ledB := b15 } ∧
    decOverview [b0, b1, b2, b3, b4, b5, b6, b7, b8, b9, b10, b11, b12, b13, b14, b15] =
      { median := halfOf b0 b1, average := halfOf b2 b3, mostDiff := halfOf b4 b5, mostDiffX := b6, mostDiffY := b7,
        lowest := halfOf b8 b9, lowestX := b10, lowestY := b11, highest := halfOf b12 b13, highestX := b14,
        highestY := b15 })

/-- Pixel `k` is the little-endian pair at bytes `2k` and `2k + 1` of the six chunks (R152, R71). -/
def Obligations.PixelsLittleEndian : Prop :=
  ∀ (p : List Byte) (k : Nat) (h : k < 384),
    ((decPixels p)[k]'h).toNat = (byteAt p (2 * k)).toNat + 256 * (byteAt p (2 * k + 1)).toNat

/-- Which bytes of the snapshot the four mirrors take (R153). -/
def Obligations.SnapshotSplit : Prop :=
  ∀ b : List Byte, b.length = 56 →
    encStatus (splitSnapshot b).1 = b.take 8 ∧ encConfig (splitSnapshot b).2.1 = (b.drop 8).take 16 ∧
    encAlarm (splitSnapshot b).2.2.1 = (b.drop 32).take 8 ∧ encAlarm (splitSnapshot b).2.2.2 = (b.drop 48).take 8

/-- The Clock Scaler is the unsigned maximum of `6250 x 2^n` and the minimum (R130). -/
def Obligations.ClockScaleIsMax : Prop :=
  ∀ (n : BitVec 3) (m : Clock), (clockScale n m).toNat = max (6250 * 2 ^ n.toNat) m.toNat

/-- The monitored area packs the clamped height high and the clamped width low (R155). -/
def Obligations.PackAreaNibbles : Prop :=
  ∀ w h : Byte, (packArea w h).toNat = 16 * min h.toNat 15 + min w.toNat 15 ∧
    (areaWidth (packArea w h)).toNat = min w.toNat 15 ∧ (areaHeight (packArea w h)).toNat = min h.toNat 15

/-- Under exact arithmetic the Celsius round trip is the identity (R281). -/
def Obligations.CelsiusRoundTrip : Prop := ∀ r : Half, celsiusToRaw (rawToCelsius r) = r

/-- `CelsiusToRaw` rounds to the nearest raw value, a tie upwards for a non-negative result, and clamps (R280). -/
def Obligations.CelsiusToRawClampsAndRounds : Prop :=
  (∀ c : ℚ, (c + 64) * 128 < 0 → celsiusToRaw c = 0) ∧
  (∀ c : ℚ, 65535 < (c + 64) * 128 → celsiusToRaw c = 65535) ∧
  (∀ (c : ℚ) (r : Half), (r.toNat : ℚ) - 1 / 2 ≤ (c + 64) * 128 → (c + 64) * 128 < (r.toNat : ℚ) + 1 / 2 →
    celsiusToRaw c = r)

/-- The fixed-point form is exact in both directions (R282), and the mapping is monotonic (R283). -/
def Obligations.FixedPointExact : Prop :=
  (∀ r : Half, ((c128 r : Int) : ℚ) / 128 = rawToCelsius r) ∧
  (∀ t : Int, celsiusToRaw ((t : ℚ) / 128) = clampRaw (t + 8192)) ∧
  (∀ a b : Half, rawToCelsius a < rawToCelsius b ↔ a < b)

/-! ## Reset and the step -/

/-- The values R48 gives for reset. What the model puts where R48 says "no value" is not stated. -/
def Obligations.ResetValues : Prop :=
  State.reset.ident = false ∧ State.reset.busAddr = 0x32#7 ∧ State.reset.begun = false ∧
  State.reset.mirrorsLoaded = false ∧ State.reset.framePresent = false ∧ State.reset.seq = .idle ∧
  State.reset.chunk = 0 ∧ State.reset.retry = 0 ∧ State.reset.busy = false ∧ State.reset.resOk = false ∧
  State.reset.resCause = .none ∧ State.reset.resValue = 0 ∧ State.reset.holding = false

/-- Reset at any moment, also while a command runs, puts the registers back in one step and issues no bus request
(R340, R342). The model's choices in it: that reset is an event, that the later events stay (log entry 1), that the
log of requests is kept (log entry 5), that the outstanding request is forgotten (log entry 17). -/
def Obligations.ResetAtAnyTime : Prop :=
  ∀ (s : State) (rest : List Event), s.env = .reset :: rest →
    ∃ t, step s = .next t ∧ Ready t ∧ t.env = rest ∧ t.busLog = s.busLog ∧ t.ident = false ∧ t.begun = false ∧
      t.mirrorsLoaded = false ∧ t.framePresent = false ∧ t.busAddr = 0x32#7 ∧ t.resOk = false ∧
      t.resCause = .none ∧ t.resValue = 0 ∧ t.chunk = 0 ∧ t.retry = 0

/-- A presented word that decodes is executed, and withFetchWord presents a table row's word. -/
def Obligations.StepRunsDecodedWord : Prop :=
  (∀ (s : State) (w : PortWord) (i : Instr) (rest : List Event), s.env = .port w :: rest → decode w = .ok i →
    step s = exec i { s with env := rest }) ∧
  (∀ (s : State) (nbits w : Nat) (i : Instr), decodeTableWord nbits w = some i →
    step (s.withFetchWord nbits w) = exec i s)

/-- A command word that is no row's of the opcode map, presented while no command runs, ends at once with
ILLEGAL_CMD (6): only the result registers change and no bus request is issued (R109). With it the 4-bit codes of all
nine causes, as the host reads them in `res_cause` (R300). -/
def Obligations.IllegalCommandWord : Prop :=
  (∀ (s : State) (w : CommandWord) (rest : List Event), s.env = .port (.command w) :: rest → s.busy = false →
    (∀ r ∈ commandRows, r.matches w = false) →
    ∃ t, step s = .next t ∧ t.resCause.code = 6#4 ∧
      t = { s with env := rest, resOk := false, resCause := .illegalCmd, resValue := 0 }) ∧
  Cause.none.code = 0#4 ∧ Cause.transport.code = 1#4 ∧ Cause.identMismatch.code = 2#4 ∧ Cause.notReady.code = 3#4 ∧
  Cause.invalidFrame.code = 4#4 ∧ Cause.badAddr.code = 5#4 ∧ Cause.illegalCmd.code = 6#4 ∧
  Cause.noMirror.code = 7#4 ∧ Cause.noSession.code = 8#4

/-- A query word that is no row's of the query map is answered `qvalid = 0`, `qdata = 0` and changes nothing, also
while a command runs (R108). -/
def Obligations.IllegalQueryWord : Prop :=
  ∀ (s : State) (q : QueryWord) (rest : List Event), s.env = .port (.query q) :: rest →
    (∀ r ∈ queryRows, r.matches q = false) →
    step s = .next { s with env := rest, qvalid := false, qdata := 0 }

/-- A command word presented while a command runs, legal or not, is not accepted: the word is gone and nothing
changes (R307). -/
def Obligations.BusyCommandNotAccepted : Prop :=
  (∀ (i : Instr) (s : State), i.isCommand = true → s.busy = true → exec i s = .next s) ∧
  (∀ (s : State) (w : CommandWord) (rest : List Event), s.busy = true → s.env = .port (.command w) :: rest →
    step s = .next { s with env := rest })

/-- Every event is consumed by the step that meets it, and only events at the head are. -/
def Obligations.StepConsumesEvents : Prop :=
  ∀ s t : State, Settled s → step s = .next t → ∃ k, t.env = s.env.drop k ∧ (s.env ≠ [] → 0 < k)

/-- Every command ends or waits for an answer: no step runs out of fuel (R40, R60, R244). -/
def Obligations.CommandEndsOrWaits : Prop :=
  ∀ (i : Instr) (s t : State), i.isCommand = true → Ready s → exec i s = .next t →
    (t.busy = false ∧ t.seq = .idle ∧ t.pending = none) ∨ Waiting t

/-- The block is at IDLE or has a request outstanding after every step from a state of the invariant that is so
(R60): the running command goes on until it ends or waits, also when an answer resumes it. -/
def Obligations.StepSettles : Prop := ∀ s t : State, Inv s → Settled s → step s = .next t → Settled t

/-- A query that arrives between an outstanding request and its answer does not disturb the running command:
the state after the answer is what it would have been, but for the query port (R270). -/
def Obligations.QueryDoesNotDisturbCommand : Prop :=
  ∀ (s s1 s2 t : State) (q : QueryWord) (a : Answer) (rest : List Event), Inv s → s.busy = true →
    s.env = .port (.query q) :: .answer a :: rest → step s = .next s1 → step s1 = .next s2 →
    step { s with env := .answer a :: rest } = .next t → s2 = { t with qvalid := s1.qvalid, qdata := s1.qdata }

/-! ## Refusals before the first bus request -/

/-- Without a session every command but BEGIN ends with NO_SESSION: no bus request, nothing but the result
registers, `cur` and staging changes (R306, R310, R313, R341). -/
def Obligations.NoSessionRefusal : Prop :=
  ∀ (i : Instr) (s : State), i.isCommand = true → (∀ a hz, i ≠ .beginSession a hz) → Ready s → s.begun = false →
    exec i s = .next (withFail i .noSession s)

/-- POLL without loaded mirrors ends with NO_MIRROR; so does CLKQ (R306, R231, R133). -/
def Obligations.NoMirrorRefusal : Prop :=
  ∀ s : State, Ready s → s.begun = true → s.mirrorsLoaded = false →
    exec .poll s = .next (withFail .poll .noMirror s) ∧ exec .clkq s = .next (withFail .clkq .noMirror s)

/-- An address outside 0x08 to 0x77 is rejected by BEGIN and by CHADDR without a bus request, whatever the tracker
says (R303, R175, R205). -/
def Obligations.BadAddressRejected : Prop :=
  ∀ (s : State) (v : Byte) (hz : Clock), Ready s → (v.toNat < 0x08 ∨ 0x77 < v.toNat) →
    exec (.beginSession v hz) s = .next (withFail (.beginSession v hz) .badAddr s) ∧
    (s.begun = true → exec (.chaddr v) s = .next (withFail (.chaddr v) .badAddr s))

/-! ## Identification and session -/

/-- IDENTIFY (opcode 0x02), complete: refused without a session; with a complete snapshot whose identification bytes match, the
four mirrors and the tracker are loaded; on a failed read or a mismatch the tracker drops and mirrors and frame
stay; the clock is restored in both cases (R170, R172). -/
def Obligations.IdentifyCommand : Prop :=
  encodeCommand .identify = 0x020000000000#48 ∧
  ∀ (s : State) (g c r e : Answer) (rest : List Event), Ready s →
    (s.begun = false → exec .identify s = .next (withFail .identify .noSession s)) ∧
    (s.begun = true → s.env = answers [g, c, r, e] ++ rest → identifies r →
      exec .identify s = .next (withOk .identify 0 (withSnapshot r.data (identBracket g r rest s)))) ∧
    (s.begun = true → s.env = answers [g, c, r, e] ++ rest → ¬ identifies r →
      exec .identify s = .next (withFail .identify (attemptCause r)
        { identBracket g r rest s with ident := false, outcome := attemptCause r }))

/-- BEGIN whose first attempt succeeds: a fresh session, identified, 16 attempts remaining (R175, R176, R177). -/
def Obligations.BeginFirstAttempt : Prop :=
  ∀ (s : State) (a : Byte) (hz : Clock) (g c r e : Answer) (rest : List Event), Ready s →
    0x08 ≤ a.toNat → a.toNat ≤ 0x77 → s.env = answers [g, c, r, e] ++ rest → identifies r →
    exec (.beginSession a hz) s = .next (withOk (.beginSession a hz) 16 (withSnapshot r.data (identBracket g r rest
      { s with begun := true, busAddr := BitVec.ofNat 7 a.toNat, baseClock := hz, framePresent := false,
               retry := 16 })))

/-- BEGIN that succeeds at attempt k = n + 1 after n failed attempts returns 17 - k; a delay stands between
attempts only (R176, R177, R178). -/
def Obligations.BeginSucceedsAtAttempt : Prop :=
  ∀ (s : State) (a : Byte) (hz : Clock) (ts : List Attempt) (g c r e : Answer) (rest : List Event), Ready s →
    0x08 ≤ a.toNat → a.toNat ≤ 0x77 → ts.length ≤ 15 → (∀ t ∈ ts, ¬ identifies t.read) → identifies r →
    s.env = attemptEvents ts ++ answers [g, c, r, e] ++ rest →
    ∃ t, exec (.beginSession a hz) s = .next t ∧ Ready t ∧ t.resOk = true ∧ t.resCause = .none ∧
      t.resValue.toNat = 16 - ts.length ∧ t.begun = true ∧ t.ident = true ∧ t.mirrorsLoaded = true ∧
      t.framePresent = false ∧ t.busAddr.toNat = a.toNat ∧ t.baseClock = hz ∧ t.frame = s.frame ∧
      (t.st, t.cf, t.al, t.ah) = splitSnapshot r.data ∧ t.env = rest ∧
      t.busLog = s.busLog ++ attemptRequests t.busAddr hz ts ++
        [.clkGet, .clkSet hz, .wrRd t.busAddr 0x00 56 false, .clkSet g.hz]

/-- BEGIN whose sixteen attempts all fail: 15 delays, none after the last, the cause of the sixteenth attempt, a
session without mirrors or frame (R176, R177, R178, R312). -/
def Obligations.BeginExhausted : Prop :=
  ∀ (s : State) (a : Byte) (hz : Clock) (ts : List Attempt) (g c r e : Answer) (rest : List Event), Ready s →
    0x08 ≤ a.toNat → a.toNat ≤ 0x77 → ts.length = 15 → (∀ t ∈ ts, ¬ identifies t.read) → ¬ identifies r →
    s.env = attemptEvents ts ++ answers [g, c, r, e] ++ rest →
    ∃ t, exec (.beginSession a hz) s = .next t ∧ Ready t ∧ t.resOk = false ∧ t.resCause = attemptCause r ∧
      t.resValue = 0 ∧ t.begun = true ∧ t.ident = false ∧ t.mirrorsLoaded = false ∧ t.framePresent = false ∧
      t.busAddr.toNat = a.toNat ∧ t.baseClock = hz ∧ t.frame = s.frame ∧ t.env = rest ∧
      (t.st, t.cf, t.al, t.ah) = (s.st, s.cf, s.al, s.ah) ∧
      t.busLog = s.busLog ++ attemptRequests t.busAddr hz ts ++
        [.clkGet, .clkSet hz, .wrRd t.busAddr 0x00 56 false, .clkSet g.hz]

/-- CLKQ, complete: refused without a session, then without mirrors; else it returns the scaled clock, whatever the
tracker says; no bus request (R133). -/
def Obligations.ClkqReturnsScaledClock : Prop :=
  encodeCommand .clkq = 0x040000000000#48 ∧
  ∀ (s : State) (v : BitVec 32), Ready s →
    (s.begun = false → exec .clkq s = .next (withFail .clkq .noSession s)) ∧
    (s.begun = true → s.mirrorsLoaded = false → exec .clkq s = .next (withFail .clkq .noMirror s)) ∧
    (s.begun = true → s.mirrorsLoaded = true →
      v.toNat = max (6250 * 2 ^ (s.cf.refreshRate.toNat % 8)) s.baseClock.toNat →
      exec .clkq s = .next (withOk .clkq v s))

/-! ## Config Writer -/

/-- WRCFG and WRALM while Identified send the whole current mirror once (R190, R193, R195). -/
def Obligations.WholeBlockWrites : Prop :=
  ∀ (s : State) (g c w e : Answer) (rest : List Event), WriterReady g c w e rest s → w.ok = true →
    exec .wrcfg s = .next (configSent .wrcfg s.cf g rest s) ∧
    exec (.wralm .lo) s = .next (alarmSent (.wralm .lo) .lo s.al g rest s) ∧
    exec (.wralm .hi) s = .next (alarmSent (.wralm .hi) .hi s.ah g rest s)

/-- SETBUZEN, SETLEDEN and SETMANACK (opcodes 0x20, 0x21, 0x22) change bit 0, 1 and 2 of func_ctrl and no other bit
(R197, R198, R199). -/
def Obligations.FuncCtrlMutators : Prop :=
  (∀ v : Bool, encodeCommand (.setbuzen v) = 0x200000000000#48 ||| (BitVec.ofBool v).setWidth 48 ∧
    encodeCommand (.setleden v) = 0x210000000000#48 ||| (BitVec.ofBool v).setWidth 48 ∧
    encodeCommand (.setmanack v) = 0x220000000000#48 ||| (BitVec.ofBool v).setWidth 48) ∧
  ∀ (s : State) (v : Bool) (fc : Byte) (g c w e : Answer) (rest : List Event), WriterReady g c w e rest s →
    w.ok = true →
    ((∀ j < 8, fc.getLsbD j = if j = 0 then v else s.cf.funcCtrl.getLsbD j) →
      exec (.setbuzen v) s = .next (configSent (.setbuzen v) { s.cf with funcCtrl := fc } g rest s)) ∧
    ((∀ j < 8, fc.getLsbD j = if j = 1 then v else s.cf.funcCtrl.getLsbD j) →
      exec (.setleden v) s = .next (configSent (.setleden v) { s.cf with funcCtrl := fc } g rest s)) ∧
    ((∀ j < 8, fc.getLsbD j = if j = 2 then v else s.cf.funcCtrl.getLsbD j) →
      exec (.setmanack v) s = .next (configSent (.setmanack v) { s.cf with funcCtrl := fc } g rest s))

/-- SETRATE (opcode 0x23) stores its 3-bit number and SETNOISE (0x24) its 4-bit number in the low nibble, bits 7:4
kept (R200, R201). -/
def Obligations.RateAndNoiseMutators : Prop :=
  (∀ n : Byte, n.toNat < 8 → encodeCommand (.setrate n) = 0x230000000000#48 ||| n.setWidth 48) ∧
  (∀ n : Byte, n.toNat < 16 → encodeCommand (.setnoise n) = 0x240000000000#48 ||| n.setWidth 48) ∧
  ∀ (s : State) (n nf : Byte) (g c w e : Answer) (rest : List Event), WriterReady g c w e rest s → w.ok = true →
    (n.toNat < 8 →
      exec (.setrate n) s = .next (configSent (.setrate n) { s.cf with refreshRate := n } g rest s)) ∧
    (n.toNat < 16 → nf.toNat = s.cf.noiseFilter.toNat / 16 * 16 + n.toNat →
      exec (.setnoise n) s = .next (configSent (.setnoise n) { s.cf with noiseFilter := nf } g rest s))

/-- SETAREA (opcode 0x25) clamps both operands to 15 and packs them, height high; it never rejects (R202). -/
def Obligations.AreaMutator : Prop :=
  (∀ w h : Byte, encodeCommand (.setarea w h) = 0x250000000000#48 ||| h.setWidth 48 <<< 8 ||| w.setWidth 48) ∧
  ∀ (s : State) (x y m : Byte) (g c w e : Answer) (rest : List Event), WriterReady g c w e rest s → w.ok = true →
    m.toNat = 16 * min y.toNat 15 + min x.toNat 15 →
    exec (.setarea x y) s = .next (configSent (.setarea x y) { s.cf with monitorArea := m } g rest s)

/-- SETALMEN, SETBUZ and SETLED (opcodes 0x26, 0x27, 0x28) store their operands, any value (R203, R204, R206). -/
def Obligations.PlainConfigMutators : Prop :=
  (∀ (v r g b : Byte) (freq : Half), encodeCommand (.setalmen v) = 0x260000000000#48 ||| v.setWidth 48 ∧
    encodeCommand (.setbuz freq v) = 0x270000000000#48 ||| v.setWidth 48 <<< 16 ||| freq.setWidth 48 ∧
    encodeCommand (.setled r g b) =
      0x280000000000#48 ||| r.setWidth 48 <<< 16 ||| g.setWidth 48 <<< 8 ||| b.setWidth 48) ∧
  ∀ (s : State) (v vol r gr b : Byte) (freq : Half) (g c w e : Answer) (rest : List Event),
    WriterReady g c w e rest s → w.ok = true →
    exec (.setalmen v) s = .next (configSent (.setalmen v) { s.cf with alarmEnable := v } g rest s) ∧
    exec (.setbuz freq vol) s =
      .next (configSent (.setbuz freq vol) { s.cf with buzzerFreq := freq, buzzerVol := vol } g rest s) ∧
    exec (.setled r gr b) s =
      .next (configSent (.setled r gr b) { s.cf with ledR := r, ledG := gr, ledB := b } g rest s)

/-- CHADDR with a valid address updates the pair together, sends the block to the old address and moves
`bus_addr` after the write; the payload is self-consistent (R205). -/
def Obligations.AddressChange : Prop :=
  ∀ (s : State) (v vi : Byte) (g c w e : Answer) (rest : List Event), WriterReady g c w e rest s → w.ok = true →
    0x08 ≤ v.toNat → v.toNat ≤ 0x77 → vi.toNat = 255 - v.toNat →
    exec (.chaddr v) s = .next { configSent (.chaddr v) { s.cf with addr := v, addrInv := vi } g rest s with
      busAddr := BitVec.ofNat 7 v.toNat } ∧
    selfConsistent (encConfig { s.cf with addr := v, addrInv := vi }) = true

/-- ALMTHR, ALMBUZ and ALMLED (opcodes 0x30, 0x31, 0x32) change their fields of the selected Alarm mirror, the
interval raised to 5, and send that block (R207, R208, R209). -/
def Obligations.AlarmMutators : Prop :=
  (∀ (which : Which) (iv r g b : Byte) (h : Half),
    encodeCommand (.almthr which h) =
      0x300000000000#48 ||| (BitVec.ofBool which.bit).setWidth 48 <<< 16 ||| h.setWidth 48 ∧
    encodeCommand (.almbuz which h iv) =
      0x310000000000#48 ||| (BitVec.ofBool which.bit).setWidth 48 <<< 24 ||| iv.setWidth 48 <<< 16 |||
        h.setWidth 48 ∧
    encodeCommand (.almled which r g b) =
      0x320000000000#48 ||| (BitVec.ofBool which.bit).setWidth 48 <<< 24 ||| r.setWidth 48 <<< 16 |||
        g.setWidth 48 <<< 8 ||| b.setWidth 48) ∧
  ∀ (s : State) (which : Which) (raw freq : Half) (iv iv' r gr b : Byte) (al : Alarm) (g c w e : Answer)
    (rest : List Event), WriterReady g c w e rest s → w.ok = true → al = (if which = .lo then s.al else s.ah) →
    iv'.toNat = max iv.toNat 5 →
    exec (.almthr which raw) s =
      .next (alarmSent (.almthr which raw) which { al with threshold := raw } g rest s) ∧
    exec (.almbuz which freq iv) s =
      .next (alarmSent (.almbuz which freq iv) which { al with buzzerFreq := freq, interval := iv' } g rest s) ∧
    exec (.almled which r gr b) s =
      .next (alarmSent (.almled which r gr b) which { al with ledR := r, ledG := gr, ledB := b } g rest s)

/-- Optimistic write, reverted identity: when the block write fails, everything is as after the successful one but
the tracker, the result registers, staging, and `bus_addr`, which stays (R192, R194, R205, R302, R312). -/
def Obligations.FailedWriteKeepsUpdate : Prop :=
  ∀ (i : Instr) (s t : State) (g c w w' e : Answer) (rest : List Event), isWriter i = true →
    addressChecked i = true → WriterReady g c w e rest s → w.ok = false → w'.ok = true →
    exec i { s with env := answers [g, c, w', e] ++ rest } = .next t →
    exec i s = .next (withFail i .transport
      { t with ident := false, outcome := .transport, busAddr := s.busAddr })

/-- A Config Writer command entered NotIdentified identifies first and then does what it does from the identified
state: the update is applied to the mirrors just loaded (R191, R196, R212). -/
def Obligations.WriterIdentifiesFirst : Prop :=
  ∀ (i : Instr) (s : State) (g c r e : Answer) (rest : List Event), isWriter i = true → addressChecked i = true →
    Ready s → s.begun = true → s.ident = false → s.env = answers [g, c, r, e] ++ rest → identifies r →
    exec i s = exec i (withSnapshot r.data (identBracket g r rest s))

/-- When that identification fails the command ends with its cause: no write, no update (R191, R196, R210, R212). -/
def Obligations.WriterNeedsIdentification : Prop :=
  ∀ (i : Instr) (s : State) (g c r e : Answer) (rest : List Event), isWriter i = true → addressChecked i = true →
    Ready s → s.begun = true → s.ident = false → s.env = answers [g, c, r, e] ++ rest → ¬ identifies r →
    exec i s = .next (withFail i (attemptCause r)
      { identBracket g r rest s with outcome := attemptCause r })

/-! ## Telemetry Poller -/

/-- A successful poll, complete: traffic, publication, results (R230 to R246). That staging keeps this poll's bytes after
it is the model's choice (log entry 3). -/
def Obligations.PollSucceeds : Prop :=
  ∀ (s : State) (hz : Clock) (g c st wb rf ov p0 p1 p2 p3 p4 p5 ack e : Answer) (rest : List Event), PollReady s →
    hz.toNat = max (6250 * 2 ^ (s.cf.refreshRate.toNat % 8)) s.baseClock.toNat →
    PollAnswered st wb rf ov p0 p1 p2 p3 p4 p5 ack →
    (le16 ov.data 8).toNat < (le16 ov.data 12).toNat →
    s.env = answers (pollHeadAnswers g c st wb rf ++
      pollBodyAnswers (s.cf.funcCtrl.getLsbD 2) ov p0 p1 p2 p3 p4 p5 ack ++ [e]) ++ rest →
    exec .poll s = .next (withOk .poll 0
      { s with
        frame := { sum := decOverview ov.data, subpage := byteAt rf.data 1,
                   pix := decPixels (p0.data ++ p1.data ++ p2.data ++ p3.data ++ p4.data ++ p5.data) }
        framePresent := true
        st := { s.st with button := byteAt st.data 0, alarm := byteAt st.data 1 }
        stg := { status2 := st.data, refresh := rf.data, overview := ov.data,
                 pixels := p0.data ++ p1.data ++ p2.data ++ p3.data ++ p4.data ++ p5.data }
        savedClock := g.hz, chunk := 5, outcome := .none, env := rest
        busLog := s.busLog ++ pollHead s.busAddr hz (byteAt st.data 0) ++
          pollBody s.busAddr (s.cf.funcCtrl.getLsbD 2) ++ [.clkSet g.hz] })

/-- No new frame: the poll ends after the refresh-control read, no overview or pixel request is issued, the status
mirror is unchanged, so a written-back edge is lost (R236, R247, R350). -/
def Obligations.PollNotReady : Prop :=
  ∀ (s : State) (hz : Clock) (g c st wb rf e : Answer) (rest : List Event), PollReady s →
    hz.toNat = max (6250 * 2 ^ (s.cf.refreshRate.toNat % 8)) s.baseClock.toNat →
    brings 2 st → wb.ok = true → brings 2 rf → (byteAt rf.data 0).toNat % 2 = 0 →
    s.env = answers (pollHeadAnswers g c st wb rf ++ [e]) ++ rest →
    exec .poll s = .next (withFail .poll .notReady
      { s with savedClock := g.hz, outcome := .notReady, env := rest,
               busLog := s.busLog ++ pollHead s.busAddr hz (byteAt st.data 0) ++ [.clkSet g.hz] })

/-- An invalid frame is acknowledged in the manual mode and then dropped whole (R241, R242, R356). -/
def Obligations.PollInvalidFrame : Prop :=
  ∀ (s : State) (hz : Clock) (g c st wb rf ov p0 p1 p2 p3 p4 p5 ack e : Answer) (rest : List Event), PollReady s →
    hz.toNat = max (6250 * 2 ^ (s.cf.refreshRate.toNat % 8)) s.baseClock.toNat →
    PollAnswered st wb rf ov p0 p1 p2 p3 p4 p5 ack →
    (le16 ov.data 12).toNat ≤ (le16 ov.data 8).toNat →
    s.env = answers (pollHeadAnswers g c st wb rf ++
      pollBodyAnswers (s.cf.funcCtrl.getLsbD 2) ov p0 p1 p2 p3 p4 p5 ack ++ [e]) ++ rest →
    exec .poll s = .next (withFail .poll .invalidFrame
      { s with savedClock := g.hz, chunk := 5, outcome := .invalidFrame, env := rest,
               busLog := s.busLog ++ pollHead s.busAddr hz (byteAt st.data 0) ++
                 pollBody s.busAddr (s.cf.funcCtrl.getLsbD 2) ++ [.clkSet g.hz] })

/-- A poll that fails at a transfer, one clause for each of the six transfer rows of R245: the status read (R233), the
button write-back (R234), the refresh-control read (R235), the overview read (R237), pixel chunk k after k complete
ones (R238), the acknowledgement of the manual mode (R240; whatever the overview says, so the validity is not
evaluated). Each ends with `TRANSPORT`; no later transfer is requested, the clock is restored, the published state is
unchanged. -/
def Obligations.PollFailsAtChunk : Prop :=
  ∀ (s : State) (hz : Clock) (g c e : Answer) (rest : List Event), PollReady s →
    hz.toNat = max (6250 * 2 ^ (s.cf.refreshRate.toNat % 8)) s.baseClock.toNat →
    (∀ st : Answer, ¬ brings 2 st → s.env = answers [g, c, st, e] ++ rest →
      PollFailsWith [.clkGet, .clkSet hz, .wrRd s.busAddr 0x00 2 false, .clkSet g.hz] rest s) ∧
    (∀ st wb : Answer, brings 2 st → edgeSet (byteAt st.data 0) = true → wb.ok = false →
      s.env = answers [g, c, st, wb, e] ++ rest →
      PollFailsWith [.clkGet, .clkSet hz, .wrRd s.busAddr 0x00 2 false, .wr s.busAddr 0x00 [byteAt st.data 0],
        .clkSet g.hz] rest s) ∧
    (∀ st wb rf : Answer, brings 2 st → wb.ok = true → ¬ brings 2 rf →
      s.env = answers (pollHeadAnswers g c st wb rf ++ [e]) ++ rest →
      PollFailsWith (pollHead s.busAddr hz (byteAt st.data 0) ++ [.clkSet g.hz]) rest s) ∧
    (∀ st wb rf ov : Answer, brings 2 st → wb.ok = true → brings 2 rf → (byteAt rf.data 0).toNat % 2 = 1 →
      ¬ brings 16 ov → s.env = answers (pollHeadAnswers g c st wb rf ++ [ov, e]) ++ rest →
      PollFailsWith (pollHead s.busAddr hz (byteAt st.data 0) ++ [.wrRd s.busAddr 0x70 16 true, .clkSet g.hz])
        rest s) ∧
    (∀ (st wb rf ov bad : Answer) (ps : List Answer), brings 2 st → wb.ok = true → brings 2 rf →
      (byteAt rf.data 0).toNat % 2 = 1 → brings 16 ov → ps.length ≤ 5 → (∀ p ∈ ps, brings 128 p) → ¬ brings 128 bad →
      s.env = answers (pollHeadAnswers g c st wb rf ++ [ov] ++ ps ++ [bad, e]) ++ rest →
      PollFailsWith (pollHead s.busAddr hz (byteAt st.data 0) ++ [.wrRd s.busAddr 0x70 16 true] ++
        List.replicate ps.length (.rdMore s.busAddr 128 true) ++
        [.rdMore s.busAddr 128 (decide (ps.length < 5)), .clkSet g.hz]) rest s) ∧
    (∀ (st wb rf ov ack : Answer) (ps : List Answer), brings 2 st → wb.ok = true → brings 2 rf →
      (byteAt rf.data 0).toNat % 2 = 1 → brings 16 ov → ps.length = 6 → (∀ p ∈ ps, brings 128 p) →
      s.cf.funcCtrl.getLsbD 2 = true → ack.ok = false →
      s.env = answers (pollHeadAnswers g c st wb rf ++ [ov] ++ ps ++ [ack, e]) ++ rest →
      PollFailsWith (pollHead s.busAddr hz (byteAt st.data 0) ++ pollBody s.busAddr true ++ [.clkSet g.hz]) rest s)

/-- A poll publishes all or nothing, whatever the answers, and never changes the tracker, a mirror but the Status
mirror, or the session (R239, R243, R244, R245, R312, R359). First as one step from any state of the invariant inside
a poll, so also when an answer resumes it; then as the command presented to a ready block. -/
def Obligations.PollLeavesPublishedState : Prop :=
  (∀ s t : State, Inv s → s.seq ∈ pollStates → (∀ rest, s.env ≠ .reset :: rest) → step s = .next t →
    SessionKept s t ∧ (PublishesNothing s t ∨ PublishesAll s t) ∧
    (t.busy = false → t.resOk = false → published t = { published s with busy := false })) ∧
  (∀ s t : State, Ready s → exec .poll s = .next t →
    SessionKept s t ∧
    (t.busy = false → t.resOk = false → published t = published s) ∧
    (t.busy = false → t.resOk = true → PublishesAll s t) ∧
    (t.busy = true → t.seq ≠ .plExit → PublishesNothing s t) ∧
    (t.busy = true → t.seq = .plExit → t.outcome ≠ .none → PublishesNothing s t) ∧
    (t.busy = true → t.seq = .plExit → t.outcome = .none → PublishesAll s t))

/-- Every poll past its admission that ends, whatever the outcome, closes by restoring the clock it found (R84, R232,
R244). First the command presented to a block that may poll, when it ends in the same step: it opens with ClkGet and
the scaled clock, and between that and the closing request stand transfers only. Then any step of a poll, also one that
resumes it on an answer: where it ends the poll, the last request of the log restores the saved clock, which is the
clock the answer to ClkGet brings when that answer is met in this step, and else the clock saved before. -/
def Obligations.PollRestoresClock : Prop :=
  (∀ (s t : State), PollReady s → exec .poll s = .next t → t.busy = false →
    ∃ (g : Answer) (rest : List Event) (mid : List BusRequest), s.env = .answer g :: rest ∧
      (∀ r ∈ mid, isTransfer r = true) ∧
      t.busLog = s.busLog ++ [.clkGet, .clkSet (scaledClock s)] ++ mid ++ [.clkSet g.hz]) ∧
  (∀ s t : State, Inv s → s.seq ∈ pollStates → (∀ rest, s.env ≠ .reset :: rest) → step s = .next t →
    t.busy = false →
    t.busLog.getLast? = some (.clkSet t.savedClock) ∧
    (∀ g rest, s.seq = .plClk → s.pending = some .clkGet → s.env = .answer g :: rest → t.savedClock = g.hz) ∧
    (∀ hz, s.seq = .plClk → s.pending = some (.clkSet hz) → t.savedClock = s.savedClock) ∧
    (s.seq ≠ .plClk → t.savedClock = s.savedClock))

/-! ## Queries -/

/-- QMIR (qop 0x0) answers the byte at that offset of the encoded mirrors, in four ranges (R271, R272). -/
def Obligations.MirrorQuery : Prop :=
  (∀ a : Byte, encodeQuery (.qmir a) = a.setWidth 16) ∧
  ∀ (s : State) (a : Byte),
    (s.mirrorsLoaded = false → exec (.qmir a) s = .next (answered none s)) ∧
    (s.mirrorsLoaded = true →
      exec (.qmir a) s = .next (answered (Option.map (BitVec.setWidth 32)
        (if a.toNat ≤ 0x07 then some (byteAt (encStatus s.st) a.toNat)
         else if 0x08 ≤ a.toNat ∧ a.toNat ≤ 0x17 then some (byteAt (encConfig s.cf) (a.toNat - 0x08))
         else if 0x20 ≤ a.toNat ∧ a.toNat ≤ 0x27 then some (byteAt (encAlarm s.al) (a.toNat - 0x20))
         else if 0x30 ≤ a.toNat ∧ a.toNat ≤ 0x37 then some (byteAt (encAlarm s.ah) (a.toNat - 0x30))
         else none)) s))

/-- QPIX (qop 0x1) and QPIXC (qop 0x4) answer the pixel, raw and in 1/128 degree Celsius signed, and the sentinel out of range (R272,
R273, R274). -/
def Obligations.PixelQueries : Prop :=
  (∀ idx : BitVec 12, encodeQuery (.qpix idx) = 0x1000#16 ||| idx.setWidth 16 ∧
    encodeQuery (.qpixc idx) = 0x4000#16 ||| idx.setWidth 16) ∧
  ∀ (s : State) (idx : BitVec 12),
    (s.framePresent = false →
      exec (.qpix idx) s = .next (answered none s) ∧ exec (.qpixc idx) s = .next (answered none s)) ∧
    (s.framePresent = true → ∀ h : idx.toNat < 384,
      exec (.qpix idx) s = .next (answered (some ((s.frame.pix[idx.toNat]'h).setWidth 32)) s) ∧
      ∀ d : BitVec 32, d.toInt = ((s.frame.pix[idx.toNat]'h).toNat : Int) - 8192 →
        exec (.qpixc idx) s = .next (answered (some d) s)) ∧
    (s.framePresent = true → 384 ≤ idx.toNat →
      exec (.qpix idx) s = .next (answered (some (Config.pixelSentinel.setWidth 32)) s) ∧
      ∀ d : BitVec 32, d.toInt = (Config.pixelSentinel.toNat : Int) - 8192 →
        exec (.qpixc idx) s = .next (answered (some d) s))

/-- QSUM (qop 0x2) answers the twelve fields of R275's table, zero extended, and is invalid for the other selectors. -/
def Obligations.SummaryQuery : Prop :=
  (∀ sel : BitVec 4, encodeQuery (.qsum sel) = 0x2000#16 ||| sel.setWidth 16) ∧
  ∀ (s : State) (sel : BitVec 4),
    (s.framePresent = false → exec (.qsum sel) s = .next (answered none s)) ∧
    (s.framePresent = true → ∀ d : Option Nat,
      d = [s.frame.sum.median.toNat, s.frame.sum.average.toNat, s.frame.sum.mostDiff.toNat,
        s.frame.sum.mostDiffX.toNat, s.frame.sum.mostDiffY.toNat, s.frame.sum.lowest.toNat,
        s.frame.sum.lowestX.toNat, s.frame.sum.lowestY.toNat, s.frame.sum.highest.toNat,
        s.frame.sum.highestX.toNat, s.frame.sum.highestY.toNat, s.frame.subpage.toNat][sel.toNat]? →
      exec (.qsum sel) s = .next (answered (d.map (BitVec.ofNat 32)) s))

/-- QSUMC (qop 0x5) answers the five raw values of the summary in 1/128 degree Celsius, signed, and is invalid for every other
selector (R276). -/
def Obligations.SummaryCelsiusQuery : Prop :=
  (∀ sel : BitVec 4, encodeQuery (.qsumc sel) = 0x5000#16 ||| sel.setWidth 16) ∧
  ∀ (s : State) (sel : BitVec 4),
    (s.framePresent = false → exec (.qsumc sel) s = .next (answered none s)) ∧
    (s.framePresent = true →
      (sel.toNat ∉ [0, 1, 2, 5, 8] → exec (.qsumc sel) s = .next (answered none s)) ∧
      ∀ (v : Half) (d : BitVec 32),
        (sel.toNat, v) ∈ [(0, s.frame.sum.median), (1, s.frame.sum.average), (2, s.frame.sum.mostDiff),
          (5, s.frame.sum.lowest), (8, s.frame.sum.highest)] →
        d.toInt = (v.toNat : Int) - 8192 → exec (.qsumc sel) s = .next (answered (some d) s))

/-- QBTN (qop 0x3) answers one bit of the published button byte, and QSTATE (qop 0x6) the five flags, always valid (R277, R278). -/
def Obligations.ButtonAndStateQueries : Prop :=
  (∀ bit : BitVec 3, encodeQuery (.qbtn bit) = 0x3000#16 ||| bit.setWidth 16) ∧ encodeQuery .qstate = 0x6000#16 ∧
  ∀ (s : State) (bit : BitVec 3) (d : BitVec 32),
    (s.mirrorsLoaded = false → exec (.qbtn bit) s = .next (answered none s)) ∧
    (s.mirrorsLoaded = true → d.toNat = s.st.button.toNat / 2 ^ bit.toNat % 2 →
      exec (.qbtn bit) s = .next (answered (some d) s)) ∧
    (d.toNat = s.ident.toNat + 2 * s.mirrorsLoaded.toNat + 4 * s.framePresent.toNat + 8 * s.busy.toNat +
        16 * s.begun.toNat → exec .qstate s = .next (answered (some d) s))

/-- A query answers, and changes nothing but the query port (R106, R270). -/
def Obligations.QueriesChangeNothing : Prop :=
  ∀ (i : Instr) (s : State), i.isCommand = false → ∃ v, exec i s = .next (answered v s)

/-- The answer of a query depends on the published state only: never on staging, the sequencer or a result (R270,
R239). -/
def Obligations.QueriesSeePublishedStateOnly : Prop :=
  ∀ (i : Instr) (s1 s2 t1 t2 : State), i.isCommand = false → published s1 = published s2 →
    exec i s1 = .next t1 → exec i s2 = .next t2 → t1.qvalid = t2.qvalid ∧ t1.qdata = t2.qdata

/-! ## The whole machine -/

/-- No other index or length than those of R73 ever appears on the bus port, and requests are only appended. -/
def Obligations.OnlyListedAccesses : Prop :=
  ∀ s t : State, step s = .next t → ∃ new, t.busLog = s.busLog ++ new ∧ ∀ r ∈ new, listedAccess r = true

/-- What moves the tracker (R320). From every state of the invariant a step after which the tracker differs met a reset
(and then it fell), accepted a BEGIN, an IDENTIFY or a Config Writer command, or resumed one on an answer. So POLL, CLKQ,
illegal words, refused words and queries leave it. The same for exec from a ready block. -/
def Obligations.TrackerFallsOnlyByItsEvents : Prop :=
  (∀ s t : State, Inv s → step s = .next t → t.ident ≠ s.ident →
    (∃ rest, s.env = .reset :: rest ∧ t.ident = false) ∨
    (∃ w i rest, s.env = .port (.command w) :: rest ∧ s.busy = false ∧ decodeCommand w = .ok i ∧ movesTracker i) ∨
    (∃ a i rest, s.env = .answer a :: rest ∧ s.busy = true ∧ decodeCommand s.cur = .ok i ∧ movesTracker i)) ∧
  (∀ (i : Instr) (s t : State), Ready s → exec i s = .next t → t.ident ≠ s.ident → movesTracker i)

/-- The invariant holds after reset. -/
def Obligations.InvariantAtReset : Prop := Inv State.reset

/-- Every step keeps the invariant: legal address, tracker and mirrors consistent, only valid frames published, bus
held in the pixel read only, the sequencer in a state of its operation, the outstanding request the last one issued and
the one its state issues (R30, R34, R40, R43, R47, R60, R84, R192, R321). -/
def Obligations.StepKeepsInvariant : Prop := ∀ s t : State, Inv s → step s = .next t → Inv t

/-- From an invariant state no step faults or is refused: no failure is fatal (R301, R309). -/
def Obligations.NoFatalFailure : Prop := ∀ s : State, Inv s → ∃ t, step s = .next t
end

