-- ==== Sys2Proof/Laws/State.lean ====
section
/-!
SUPPORT. One lemma per field for each update of the state, so that no proof unfolds a record update.
-/

namespace Sys2Proof.Machine

variable (s : State)

/-! `issue` -/

@[simp] theorem issue_st (r : BusRequest) : (issue r s).st = s.st := rfl
@[simp] theorem issue_cf (r : BusRequest) : (issue r s).cf = s.cf := rfl
@[simp] theorem issue_al (r : BusRequest) : (issue r s).al = s.al := rfl
@[simp] theorem issue_ah (r : BusRequest) : (issue r s).ah = s.ah := rfl
@[simp] theorem issue_busAddr (r : BusRequest) : (issue r s).busAddr = s.busAddr := rfl
@[simp] theorem issue_baseClock (r : BusRequest) : (issue r s).baseClock = s.baseClock := rfl
@[simp] theorem issue_ident (r : BusRequest) : (issue r s).ident = s.ident := rfl
@[simp] theorem issue_begun (r : BusRequest) : (issue r s).begun = s.begun := rfl
@[simp] theorem issue_mirrorsLoaded (r : BusRequest) : (issue r s).mirrorsLoaded = s.mirrorsLoaded := rfl
@[simp] theorem issue_busy (r : BusRequest) : (issue r s).busy = s.busy := rfl
@[simp] theorem issue_resOk (r : BusRequest) : (issue r s).resOk = s.resOk := rfl
@[simp] theorem issue_resCause (r : BusRequest) : (issue r s).resCause = s.resCause := rfl
@[simp] theorem issue_resValue (r : BusRequest) : (issue r s).resValue = s.resValue := rfl
@[simp] theorem issue_frame (r : BusRequest) : (issue r s).frame = s.frame := rfl
@[simp] theorem issue_framePresent (r : BusRequest) : (issue r s).framePresent = s.framePresent := rfl
@[simp] theorem issue_stg (r : BusRequest) : (issue r s).stg = s.stg := rfl
@[simp] theorem issue_savedClock (r : BusRequest) : (issue r s).savedClock = s.savedClock := rfl
@[simp] theorem issue_seq (r : BusRequest) : (issue r s).seq = s.seq := rfl
@[simp] theorem issue_chunk (r : BusRequest) : (issue r s).chunk = s.chunk := rfl
@[simp] theorem issue_retry (r : BusRequest) : (issue r s).retry = s.retry := rfl
@[simp] theorem issue_cur (r : BusRequest) : (issue r s).cur = s.cur := rfl
@[simp] theorem issue_holding (r : BusRequest) : (issue r s).holding = s.holding := rfl
@[simp] theorem issue_snap (r : BusRequest) : (issue r s).snap = s.snap := rfl
@[simp] theorem issue_outcome (r : BusRequest) : (issue r s).outcome = s.outcome := rfl
@[simp] theorem issue_pending (r : BusRequest) : (issue r s).pending = some r := rfl
@[simp] theorem issue_busLog (r : BusRequest) : (issue r s).busLog = s.busLog ++ [r] := rfl
@[simp] theorem issue_qvalid (r : BusRequest) : (issue r s).qvalid = s.qvalid := rfl
@[simp] theorem issue_qdata (r : BusRequest) : (issue r s).qdata = s.qdata := rfl
@[simp] theorem issue_env (r : BusRequest) : (issue r s).env = s.env := rfl

/-! `settle` -/

@[simp] theorem settle_st (r : BusRequest) (a : Answer) : (settle r a s).st = s.st := rfl
@[simp] theorem settle_cf (r : BusRequest) (a : Answer) : (settle r a s).cf = s.cf := rfl
@[simp] theorem settle_al (r : BusRequest) (a : Answer) : (settle r a s).al = s.al := rfl
@[simp] theorem settle_ah (r : BusRequest) (a : Answer) : (settle r a s).ah = s.ah := rfl
@[simp] theorem settle_busAddr (r : BusRequest) (a : Answer) : (settle r a s).busAddr = s.busAddr := rfl
@[simp] theorem settle_baseClock (r : BusRequest) (a : Answer) : (settle r a s).baseClock = s.baseClock := rfl
@[simp] theorem settle_ident (r : BusRequest) (a : Answer) : (settle r a s).ident = s.ident := rfl
@[simp] theorem settle_begun (r : BusRequest) (a : Answer) : (settle r a s).begun = s.begun := rfl
@[simp] theorem settle_mirrorsLoaded (r : BusRequest) (a : Answer) :
    (settle r a s).mirrorsLoaded = s.mirrorsLoaded := rfl
@[simp] theorem settle_busy (r : BusRequest) (a : Answer) : (settle r a s).busy = s.busy := rfl
@[simp] theorem settle_resOk (r : BusRequest) (a : Answer) : (settle r a s).resOk = s.resOk := rfl
@[simp] theorem settle_resCause (r : BusRequest) (a : Answer) : (settle r a s).resCause = s.resCause := rfl
@[simp] theorem settle_resValue (r : BusRequest) (a : Answer) : (settle r a s).resValue = s.resValue := rfl
@[simp] theorem settle_frame (r : BusRequest) (a : Answer) : (settle r a s).frame = s.frame := rfl
@[simp] theorem settle_framePresent (r : BusRequest) (a : Answer) :
    (settle r a s).framePresent = s.framePresent := rfl
@[simp] theorem settle_stg (r : BusRequest) (a : Answer) : (settle r a s).stg = s.stg := rfl
@[simp] theorem settle_savedClock (r : BusRequest) (a : Answer) : (settle r a s).savedClock = s.savedClock := rfl
@[simp] theorem settle_seq (r : BusRequest) (a : Answer) : (settle r a s).seq = s.seq := rfl
@[simp] theorem settle_chunk (r : BusRequest) (a : Answer) : (settle r a s).chunk = s.chunk := rfl
@[simp] theorem settle_retry (r : BusRequest) (a : Answer) : (settle r a s).retry = s.retry := rfl
@[simp] theorem settle_cur (r : BusRequest) (a : Answer) : (settle r a s).cur = s.cur := rfl
@[simp] theorem settle_holding (r : BusRequest) (a : Answer) :
    (settle r a s).holding = holdingAfter r a s.holding := rfl
@[simp] theorem settle_snap (r : BusRequest) (a : Answer) : (settle r a s).snap = s.snap := rfl
@[simp] theorem settle_outcome (r : BusRequest) (a : Answer) : (settle r a s).outcome = s.outcome := rfl
@[simp] theorem settle_pending (r : BusRequest) (a : Answer) : (settle r a s).pending = none := rfl
@[simp] theorem settle_busLog (r : BusRequest) (a : Answer) : (settle r a s).busLog = s.busLog := rfl
@[simp] theorem settle_qvalid (r : BusRequest) (a : Answer) : (settle r a s).qvalid = s.qvalid := rfl
@[simp] theorem settle_qdata (r : BusRequest) (a : Answer) : (settle r a s).qdata = s.qdata := rfl
@[simp] theorem settle_env (r : BusRequest) (a : Answer) : (settle r a s).env = s.env := rfl

/-! `endFail` -/

@[simp] theorem endFail_st (c : Cause) : (endFail c s).st = s.st := rfl
@[simp] theorem endFail_cf (c : Cause) : (endFail c s).cf = s.cf := rfl
@[simp] theorem endFail_al (c : Cause) : (endFail c s).al = s.al := rfl
@[simp] theorem endFail_ah (c : Cause) : (endFail c s).ah = s.ah := rfl
@[simp] theorem endFail_busAddr (c : Cause) : (endFail c s).busAddr = s.busAddr := rfl
@[simp] theorem endFail_baseClock (c : Cause) : (endFail c s).baseClock = s.baseClock := rfl
@[simp] theorem endFail_ident (c : Cause) : (endFail c s).ident = s.ident := rfl
@[simp] theorem endFail_begun (c : Cause) : (endFail c s).begun = s.begun := rfl
@[simp] theorem endFail_mirrorsLoaded (c : Cause) : (endFail c s).mirrorsLoaded = s.mirrorsLoaded := rfl
@[simp] theorem endFail_busy (c : Cause) : (endFail c s).busy = false := rfl
@[simp] theorem endFail_resOk (c : Cause) : (endFail c s).resOk = false := rfl
@[simp] theorem endFail_resCause (c : Cause) : (endFail c s).resCause = c := rfl
@[simp] theorem endFail_resValue (c : Cause) : (endFail c s).resValue = 0 := rfl
@[simp] theorem endFail_frame (c : Cause) : (endFail c s).frame = s.frame := rfl
@[simp] theorem endFail_framePresent (c : Cause) : (endFail c s).framePresent = s.framePresent := rfl
@[simp] theorem endFail_stg (c : Cause) : (endFail c s).stg = Staging.empty := rfl
@[simp] theorem endFail_savedClock (c : Cause) : (endFail c s).savedClock = s.savedClock := rfl
@[simp] theorem endFail_seq (c : Cause) : (endFail c s).seq = .idle := rfl
@[simp] theorem endFail_chunk (c : Cause) : (endFail c s).chunk = s.chunk := rfl
@[simp] theorem endFail_retry (c : Cause) : (endFail c s).retry = s.retry := rfl
@[simp] theorem endFail_cur (c : Cause) : (endFail c s).cur = s.cur := rfl
@[simp] theorem endFail_holding (c : Cause) : (endFail c s).holding = false := rfl
@[simp] theorem endFail_snap (c : Cause) : (endFail c s).snap = s.snap := rfl
@[simp] theorem endFail_outcome (c : Cause) : (endFail c s).outcome = s.outcome := rfl
@[simp] theorem endFail_pending (c : Cause) : (endFail c s).pending = s.pending := rfl
@[simp] theorem endFail_busLog (c : Cause) : (endFail c s).busLog = s.busLog := rfl
@[simp] theorem endFail_qvalid (c : Cause) : (endFail c s).qvalid = s.qvalid := rfl
@[simp] theorem endFail_qdata (c : Cause) : (endFail c s).qdata = s.qdata := rfl
@[simp] theorem endFail_env (c : Cause) : (endFail c s).env = s.env := rfl

/-! `endOk` -/

@[simp] theorem endOk_st (v : BitVec 32) : (endOk v s).st = s.st := rfl
@[simp] theorem endOk_cf (v : BitVec 32) : (endOk v s).cf = s.cf := rfl
@[simp] theorem endOk_al (v : BitVec 32) : (endOk v s).al = s.al := rfl
@[simp] theorem endOk_ah (v : BitVec 32) : (endOk v s).ah = s.ah := rfl
@[simp] theorem endOk_busAddr (v : BitVec 32) : (endOk v s).busAddr = s.busAddr := rfl
@[simp] theorem endOk_baseClock (v : BitVec 32) : (endOk v s).baseClock = s.baseClock := rfl
@[simp] theorem endOk_ident (v : BitVec 32) : (endOk v s).ident = s.ident := rfl
@[simp] theorem endOk_begun (v : BitVec 32) : (endOk v s).begun = s.begun := rfl
@[simp] theorem endOk_mirrorsLoaded (v : BitVec 32) : (endOk v s).mirrorsLoaded = s.mirrorsLoaded := rfl
@[simp] theorem endOk_busy (v : BitVec 32) : (endOk v s).busy = false := rfl
@[simp] theorem endOk_resOk (v : BitVec 32) : (endOk v s).resOk = true := rfl
@[simp] theorem endOk_resCause (v : BitVec 32) : (endOk v s).resCause = .none := rfl
@[simp] theorem endOk_resValue (v : BitVec 32) : (endOk v s).resValue = v := rfl
@[simp] theorem endOk_frame (v : BitVec 32) : (endOk v s).frame = s.frame := rfl
@[simp] theorem endOk_framePresent (v : BitVec 32) : (endOk v s).framePresent = s.framePresent := rfl
@[simp] theorem endOk_stg (v : BitVec 32) : (endOk v s).stg = s.stg := rfl
@[simp] theorem endOk_savedClock (v : BitVec 32) : (endOk v s).savedClock = s.savedClock := rfl
@[simp] theorem endOk_seq (v : BitVec 32) : (endOk v s).seq = .idle := rfl
@[simp] theorem endOk_chunk (v : BitVec 32) : (endOk v s).chunk = s.chunk := rfl
@[simp] theorem endOk_retry (v : BitVec 32) : (endOk v s).retry = s.retry := rfl
@[simp] theorem endOk_cur (v : BitVec 32) : (endOk v s).cur = s.cur := rfl
@[simp] theorem endOk_holding (v : BitVec 32) : (endOk v s).holding = s.holding := rfl
@[simp] theorem endOk_snap (v : BitVec 32) : (endOk v s).snap = s.snap := rfl
@[simp] theorem endOk_outcome (v : BitVec 32) : (endOk v s).outcome = s.outcome := rfl
@[simp] theorem endOk_pending (v : BitVec 32) : (endOk v s).pending = s.pending := rfl
@[simp] theorem endOk_busLog (v : BitVec 32) : (endOk v s).busLog = s.busLog := rfl
@[simp] theorem endOk_qvalid (v : BitVec 32) : (endOk v s).qvalid = s.qvalid := rfl
@[simp] theorem endOk_qdata (v : BitVec 32) : (endOk v s).qdata = s.qdata := rfl
@[simp] theorem endOk_env (v : BitVec 32) : (endOk v s).env = s.env := rfl

/-! `illegalCommand` -/

@[simp] theorem illegalCommand_st : (illegalCommand s).st = s.st := rfl
@[simp] theorem illegalCommand_cf : (illegalCommand s).cf = s.cf := rfl
@[simp] theorem illegalCommand_al : (illegalCommand s).al = s.al := rfl
@[simp] theorem illegalCommand_ah : (illegalCommand s).ah = s.ah := rfl
@[simp] theorem illegalCommand_busAddr : (illegalCommand s).busAddr = s.busAddr := rfl
@[simp] theorem illegalCommand_baseClock : (illegalCommand s).baseClock = s.baseClock := rfl
@[simp] theorem illegalCommand_ident : (illegalCommand s).ident = s.ident := rfl
@[simp] theorem illegalCommand_begun : (illegalCommand s).begun = s.begun := rfl
@[simp] theorem illegalCommand_mirrorsLoaded : (illegalCommand s).mirrorsLoaded = s.mirrorsLoaded := rfl
@[simp] theorem illegalCommand_busy : (illegalCommand s).busy = s.busy := rfl
@[simp] theorem illegalCommand_resOk : (illegalCommand s).resOk = false := rfl
@[simp] theorem illegalCommand_resCause : (illegalCommand s).resCause = .illegalCmd := rfl
@[simp] theorem illegalCommand_resValue : (illegalCommand s).resValue = 0 := rfl
@[simp] theorem illegalCommand_frame : (illegalCommand s).frame = s.frame := rfl
@[simp] theorem illegalCommand_framePresent : (illegalCommand s).framePresent = s.framePresent := rfl
@[simp] theorem illegalCommand_stg : (illegalCommand s).stg = s.stg := rfl
@[simp] theorem illegalCommand_savedClock : (illegalCommand s).savedClock = s.savedClock := rfl
@[simp] theorem illegalCommand_seq : (illegalCommand s).seq = s.seq := rfl
@[simp] theorem illegalCommand_chunk : (illegalCommand s).chunk = s.chunk := rfl
@[simp] theorem illegalCommand_retry : (illegalCommand s).retry = s.retry := rfl
@[simp] theorem illegalCommand_cur : (illegalCommand s).cur = s.cur := rfl
@[simp] theorem illegalCommand_holding : (illegalCommand s).holding = s.holding := rfl
@[simp] theorem illegalCommand_snap : (illegalCommand s).snap = s.snap := rfl
@[simp] theorem illegalCommand_outcome : (illegalCommand s).outcome = s.outcome := rfl
@[simp] theorem illegalCommand_pending : (illegalCommand s).pending = s.pending := rfl
@[simp] theorem illegalCommand_busLog : (illegalCommand s).busLog = s.busLog := rfl
@[simp] theorem illegalCommand_qvalid : (illegalCommand s).qvalid = s.qvalid := rfl
@[simp] theorem illegalCommand_qdata : (illegalCommand s).qdata = s.qdata := rfl
@[simp] theorem illegalCommand_env : (illegalCommand s).env = s.env := rfl

/-! `reply` -/

@[simp] theorem reply_st (v : Bool) (d : BitVec 32) : (reply v d s).st = s.st := rfl
@[simp] theorem reply_cf (v : Bool) (d : BitVec 32) : (reply v d s).cf = s.cf := rfl
@[simp] theorem reply_al (v : Bool) (d : BitVec 32) : (reply v d s).al = s.al := rfl
@[simp] theorem reply_ah (v : Bool) (d : BitVec 32) : (reply v d s).ah = s.ah := rfl
@[simp] theorem reply_busAddr (v : Bool) (d : BitVec 32) : (reply v d s).busAddr = s.busAddr := rfl
@[simp] theorem reply_baseClock (v : Bool) (d : BitVec 32) : (reply v d s).baseClock = s.baseClock := rfl
@[simp] theorem reply_ident (v : Bool) (d : BitVec 32) : (reply v d s).ident = s.ident := rfl
@[simp] theorem reply_begun (v : Bool) (d : BitVec 32) : (reply v d s).begun = s.begun := rfl
@[simp] theorem reply_mirrorsLoaded (v : Bool) (d : BitVec 32) : (reply v d s).mirrorsLoaded = s.mirrorsLoaded := rfl
@[simp] theorem reply_busy (v : Bool) (d : BitVec 32) : (reply v d s).busy = s.busy := rfl
@[simp] theorem reply_resOk (v : Bool) (d : BitVec 32) : (reply v d s).resOk = s.resOk := rfl
@[simp] theorem reply_resCause (v : Bool) (d : BitVec 32) : (reply v d s).resCause = s.resCause := rfl
@[simp] theorem reply_resValue (v : Bool) (d : BitVec 32) : (reply v d s).resValue = s.resValue := rfl
@[simp] theorem reply_frame (v : Bool) (d : BitVec 32) : (reply v d s).frame = s.frame := rfl
@[simp] theorem reply_framePresent (v : Bool) (d : BitVec 32) : (reply v d s).framePresent = s.framePresent := rfl
@[simp] theorem reply_stg (v : Bool) (d : BitVec 32) : (reply v d s).stg = s.stg := rfl
@[simp] theorem reply_savedClock (v : Bool) (d : BitVec 32) : (reply v d s).savedClock = s.savedClock := rfl
@[simp] theorem reply_seq (v : Bool) (d : BitVec 32) : (reply v d s).seq = s.seq := rfl
@[simp] theorem reply_chunk (v : Bool) (d : BitVec 32) : (reply v d s).chunk = s.chunk := rfl
@[simp] theorem reply_retry (v : Bool) (d : BitVec 32) : (reply v d s).retry = s.retry := rfl
@[simp] theorem reply_cur (v : Bool) (d : BitVec 32) : (reply v d s).cur = s.cur := rfl
@[simp] theorem reply_holding (v : Bool) (d : BitVec 32) : (reply v d s).holding = s.holding := rfl
@[simp] theorem reply_snap (v : Bool) (d : BitVec 32) : (reply v d s).snap = s.snap := rfl
@[simp] theorem reply_outcome (v : Bool) (d : BitVec 32) : (reply v d s).outcome = s.outcome := rfl
@[simp] theorem reply_pending (v : Bool) (d : BitVec 32) : (reply v d s).pending = s.pending := rfl
@[simp] theorem reply_busLog (v : Bool) (d : BitVec 32) : (reply v d s).busLog = s.busLog := rfl
@[simp] theorem reply_qvalid (v : Bool) (d : BitVec 32) : (reply v d s).qvalid = v := rfl
@[simp] theorem reply_qdata (v : Bool) (d : BitVec 32) : (reply v d s).qdata = d := rfl
@[simp] theorem reply_env (v : Bool) (d : BitVec 32) : (reply v d s).env = s.env := rfl

/-! `loadMirrors` -/

@[simp] theorem loadMirrors_st (b : List Byte) : (loadMirrors b s).st = (splitSnapshot b).1 := rfl
@[simp] theorem loadMirrors_cf (b : List Byte) : (loadMirrors b s).cf = (splitSnapshot b).2.1 := rfl
@[simp] theorem loadMirrors_al (b : List Byte) : (loadMirrors b s).al = (splitSnapshot b).2.2.1 := rfl
@[simp] theorem loadMirrors_ah (b : List Byte) : (loadMirrors b s).ah = (splitSnapshot b).2.2.2 := rfl
@[simp] theorem loadMirrors_busAddr (b : List Byte) : (loadMirrors b s).busAddr = s.busAddr := rfl
@[simp] theorem loadMirrors_baseClock (b : List Byte) : (loadMirrors b s).baseClock = s.baseClock := rfl
@[simp] theorem loadMirrors_ident (b : List Byte) : (loadMirrors b s).ident = true := rfl
@[simp] theorem loadMirrors_begun (b : List Byte) : (loadMirrors b s).begun = s.begun := rfl
@[simp] theorem loadMirrors_mirrorsLoaded (b : List Byte) : (loadMirrors b s).mirrorsLoaded = true := rfl
@[simp] theorem loadMirrors_busy (b : List Byte) : (loadMirrors b s).busy = s.busy := rfl
@[simp] theorem loadMirrors_resOk (b : List Byte) : (loadMirrors b s).resOk = s.resOk := rfl
@[simp] theorem loadMirrors_resCause (b : List Byte) : (loadMirrors b s).resCause = s.resCause := rfl
@[simp] theorem loadMirrors_resValue (b : List Byte) : (loadMirrors b s).resValue = s.resValue := rfl
@[simp] theorem loadMirrors_frame (b : List Byte) : (loadMirrors b s).frame = s.frame := rfl
@[simp] theorem loadMirrors_framePresent (b : List Byte) : (loadMirrors b s).framePresent = s.framePresent := rfl
@[simp] theorem loadMirrors_stg (b : List Byte) : (loadMirrors b s).stg = s.stg := rfl
@[simp] theorem loadMirrors_savedClock (b : List Byte) : (loadMirrors b s).savedClock = s.savedClock := rfl
@[simp] theorem loadMirrors_seq (b : List Byte) : (loadMirrors b s).seq = s.seq := rfl
@[simp] theorem loadMirrors_chunk (b : List Byte) : (loadMirrors b s).chunk = s.chunk := rfl
@[simp] theorem loadMirrors_retry (b : List Byte) : (loadMirrors b s).retry = s.retry := rfl
@[simp] theorem loadMirrors_cur (b : List Byte) : (loadMirrors b s).cur = s.cur := rfl
@[simp] theorem loadMirrors_holding (b : List Byte) : (loadMirrors b s).holding = s.holding := rfl
@[simp] theorem loadMirrors_snap (b : List Byte) : (loadMirrors b s).snap = s.snap := rfl
@[simp] theorem loadMirrors_outcome (b : List Byte) : (loadMirrors b s).outcome = s.outcome := rfl
@[simp] theorem loadMirrors_pending (b : List Byte) : (loadMirrors b s).pending = s.pending := rfl
@[simp] theorem loadMirrors_busLog (b : List Byte) : (loadMirrors b s).busLog = s.busLog := rfl
@[simp] theorem loadMirrors_qvalid (b : List Byte) : (loadMirrors b s).qvalid = s.qvalid := rfl
@[simp] theorem loadMirrors_qdata (b : List Byte) : (loadMirrors b s).qdata = s.qdata := rfl
@[simp] theorem loadMirrors_env (b : List Byte) : (loadMirrors b s).env = s.env := rfl

/-! `beginSessionInit` -/

@[simp] theorem beginSessionInit_st (addr8 : Byte) (hz : Clock) : (beginSessionInit addr8 hz s).st = s.st := rfl
@[simp] theorem beginSessionInit_cf (addr8 : Byte) (hz : Clock) : (beginSessionInit addr8 hz s).cf = s.cf := rfl
@[simp] theorem beginSessionInit_al (addr8 : Byte) (hz : Clock) : (beginSessionInit addr8 hz s).al = s.al := rfl
@[simp] theorem beginSessionInit_ah (addr8 : Byte) (hz : Clock) : (beginSessionInit addr8 hz s).ah = s.ah := rfl
@[simp] theorem beginSessionInit_busAddr (addr8 : Byte) (hz : Clock) :
    (beginSessionInit addr8 hz s).busAddr = addrLow addr8 := rfl
@[simp] theorem beginSessionInit_baseClock (addr8 : Byte) (hz : Clock) :
    (beginSessionInit addr8 hz s).baseClock = hz := rfl
@[simp] theorem beginSessionInit_ident (addr8 : Byte) (hz : Clock) :
    (beginSessionInit addr8 hz s).ident = false := rfl
@[simp] theorem beginSessionInit_begun (addr8 : Byte) (hz : Clock) : (beginSessionInit addr8 hz s).begun = true := rfl
@[simp] theorem beginSessionInit_mirrorsLoaded (addr8 : Byte) (hz : Clock) :
    (beginSessionInit addr8 hz s).mirrorsLoaded = false := rfl
@[simp] theorem beginSessionInit_busy (addr8 : Byte) (hz : Clock) : (beginSessionInit addr8 hz s).busy = s.busy := rfl
@[simp] theorem beginSessionInit_resOk (addr8 : Byte) (hz : Clock) :
    (beginSessionInit addr8 hz s).resOk = s.resOk := rfl
@[simp] theorem beginSessionInit_resCause (addr8 : Byte) (hz : Clock) :
    (beginSessionInit addr8 hz s).resCause = s.resCause := rfl
@[simp] theorem beginSessionInit_resValue (addr8 : Byte) (hz : Clock) :
    (beginSessionInit addr8 hz s).resValue = s.resValue := rfl
@[simp] theorem beginSessionInit_frame (addr8 : Byte) (hz : Clock) :
    (beginSessionInit addr8 hz s).frame = s.frame := rfl
@[simp] theorem beginSessionInit_framePresent (addr8 : Byte) (hz : Clock) :
    (beginSessionInit addr8 hz s).framePresent = false := rfl
@[simp] theorem beginSessionInit_stg (addr8 : Byte) (hz : Clock) : (beginSessionInit addr8 hz s).stg = s.stg := rfl
@[simp] theorem beginSessionInit_savedClock (addr8 : Byte) (hz : Clock) :
    (beginSessionInit addr8 hz s).savedClock = s.savedClock := rfl
@[simp] theorem beginSessionInit_seq (addr8 : Byte) (hz : Clock) : (beginSessionInit addr8 hz s).seq = s.seq := rfl
@[simp] theorem beginSessionInit_chunk (addr8 : Byte) (hz : Clock) :
    (beginSessionInit addr8 hz s).chunk = s.chunk := rfl
@[simp] theorem beginSessionInit_retry (addr8 : Byte) (hz : Clock) :
    (beginSessionInit addr8 hz s).retry = Config.retryBound := rfl
@[simp] theorem beginSessionInit_cur (addr8 : Byte) (hz : Clock) : (beginSessionInit addr8 hz s).cur = s.cur := rfl
@[simp] theorem beginSessionInit_holding (addr8 : Byte) (hz : Clock) :
    (beginSessionInit addr8 hz s).holding = s.holding := rfl
@[simp] theorem beginSessionInit_snap (addr8 : Byte) (hz : Clock) : (beginSessionInit addr8 hz s).snap = s.snap := rfl
@[simp] theorem beginSessionInit_outcome (addr8 : Byte) (hz : Clock) :
    (beginSessionInit addr8 hz s).outcome = s.outcome := rfl
@[simp] theorem beginSessionInit_pending (addr8 : Byte) (hz : Clock) :
    (beginSessionInit addr8 hz s).pending = s.pending := rfl
@[simp] theorem beginSessionInit_busLog (addr8 : Byte) (hz : Clock) :
    (beginSessionInit addr8 hz s).busLog = s.busLog := rfl
@[simp] theorem beginSessionInit_qvalid (addr8 : Byte) (hz : Clock) :
    (beginSessionInit addr8 hz s).qvalid = s.qvalid := rfl
@[simp] theorem beginSessionInit_qdata (addr8 : Byte) (hz : Clock) :
    (beginSessionInit addr8 hz s).qdata = s.qdata := rfl
@[simp] theorem beginSessionInit_env (addr8 : Byte) (hz : Clock) : (beginSessionInit addr8 hz s).env = s.env := rfl

/-! `publish` -/

@[simp] theorem publish_st :
    (publish s).st = { s.st with button := byteAt s.stg.status2 0, alarm := byteAt s.stg.status2 1 } := rfl
@[simp] theorem publish_cf : (publish s).cf = s.cf := rfl
@[simp] theorem publish_al : (publish s).al = s.al := rfl
@[simp] theorem publish_ah : (publish s).ah = s.ah := rfl
@[simp] theorem publish_busAddr : (publish s).busAddr = s.busAddr := rfl
@[simp] theorem publish_baseClock : (publish s).baseClock = s.baseClock := rfl
@[simp] theorem publish_ident : (publish s).ident = s.ident := rfl
@[simp] theorem publish_begun : (publish s).begun = s.begun := rfl
@[simp] theorem publish_mirrorsLoaded : (publish s).mirrorsLoaded = s.mirrorsLoaded := rfl
@[simp] theorem publish_busy : (publish s).busy = s.busy := rfl
@[simp] theorem publish_resOk : (publish s).resOk = s.resOk := rfl
@[simp] theorem publish_resCause : (publish s).resCause = s.resCause := rfl
@[simp] theorem publish_resValue : (publish s).resValue = s.resValue := rfl
@[simp] theorem publish_frame :
    (publish s).frame = { sum := decOverview s.stg.overview, pix := decPixels s.stg.pixels,
                              subpage := (decRefresh s.stg.refresh).2 } := rfl
@[simp] theorem publish_framePresent : (publish s).framePresent = true := rfl
@[simp] theorem publish_stg : (publish s).stg = s.stg := rfl
@[simp] theorem publish_savedClock : (publish s).savedClock = s.savedClock := rfl
@[simp] theorem publish_seq : (publish s).seq = s.seq := rfl
@[simp] theorem publish_chunk : (publish s).chunk = s.chunk := rfl
@[simp] theorem publish_retry : (publish s).retry = s.retry := rfl
@[simp] theorem publish_cur : (publish s).cur = s.cur := rfl
@[simp] theorem publish_holding : (publish s).holding = s.holding := rfl
@[simp] theorem publish_snap : (publish s).snap = s.snap := rfl
@[simp] theorem publish_outcome : (publish s).outcome = s.outcome := rfl
@[simp] theorem publish_pending : (publish s).pending = s.pending := rfl
@[simp] theorem publish_busLog : (publish s).busLog = s.busLog := rfl
@[simp] theorem publish_qvalid : (publish s).qvalid = s.qvalid := rfl
@[simp] theorem publish_qdata : (publish s).qdata = s.qdata := rfl
@[simp] theorem publish_env : (publish s).env = s.env := rfl

/-! `updateConfig` -/

@[simp] theorem updateConfig_st (f : ConfigRegs → ConfigRegs) : (updateConfig f s).st = s.st := rfl
@[simp] theorem updateConfig_cf (f : ConfigRegs → ConfigRegs) : (updateConfig f s).cf = f s.cf := rfl
@[simp] theorem updateConfig_al (f : ConfigRegs → ConfigRegs) : (updateConfig f s).al = s.al := rfl
@[simp] theorem updateConfig_ah (f : ConfigRegs → ConfigRegs) : (updateConfig f s).ah = s.ah := rfl
@[simp] theorem updateConfig_busAddr (f : ConfigRegs → ConfigRegs) : (updateConfig f s).busAddr = s.busAddr := rfl
@[simp] theorem updateConfig_baseClock (f : ConfigRegs → ConfigRegs) :
    (updateConfig f s).baseClock = s.baseClock := rfl
@[simp] theorem updateConfig_ident (f : ConfigRegs → ConfigRegs) : (updateConfig f s).ident = s.ident := rfl
@[simp] theorem updateConfig_begun (f : ConfigRegs → ConfigRegs) : (updateConfig f s).begun = s.begun := rfl
@[simp] theorem updateConfig_mirrorsLoaded (f : ConfigRegs → ConfigRegs) :
    (updateConfig f s).mirrorsLoaded = s.mirrorsLoaded := rfl
@[simp] theorem updateConfig_busy (f : ConfigRegs → ConfigRegs) : (updateConfig f s).busy = s.busy := rfl
@[simp] theorem updateConfig_resOk (f : ConfigRegs → ConfigRegs) : (updateConfig f s).resOk = s.resOk := rfl
@[simp] theorem updateConfig_resCause (f : ConfigRegs → ConfigRegs) : (updateConfig f s).resCause = s.resCause := rfl
@[simp] theorem updateConfig_resValue (f : ConfigRegs → ConfigRegs) : (updateConfig f s).resValue = s.resValue := rfl
@[simp] theorem updateConfig_frame (f : ConfigRegs → ConfigRegs) : (updateConfig f s).frame = s.frame := rfl
@[simp] theorem updateConfig_framePresent (f : ConfigRegs → ConfigRegs) :
    (updateConfig f s).framePresent = s.framePresent := rfl
@[simp] theorem updateConfig_stg (f : ConfigRegs → ConfigRegs) : (updateConfig f s).stg = s.stg := rfl
@[simp] theorem updateConfig_savedClock (f : ConfigRegs → ConfigRegs) :
    (updateConfig f s).savedClock = s.savedClock := rfl
@[simp] theorem updateConfig_seq (f : ConfigRegs → ConfigRegs) : (updateConfig f s).seq = s.seq := rfl
@[simp] theorem updateConfig_chunk (f : ConfigRegs → ConfigRegs) : (updateConfig f s).chunk = s.chunk := rfl
@[simp] theorem updateConfig_retry (f : ConfigRegs → ConfigRegs) : (updateConfig f s).retry = s.retry := rfl
@[simp] theorem updateConfig_cur (f : ConfigRegs → ConfigRegs) : (updateConfig f s).cur = s.cur := rfl
@[simp] theorem updateConfig_holding (f : ConfigRegs → ConfigRegs) : (updateConfig f s).holding = s.holding := rfl
@[simp] theorem updateConfig_snap (f : ConfigRegs → ConfigRegs) : (updateConfig f s).snap = s.snap := rfl
@[simp] theorem updateConfig_outcome (f : ConfigRegs → ConfigRegs) : (updateConfig f s).outcome = s.outcome := rfl
@[simp] theorem updateConfig_pending (f : ConfigRegs → ConfigRegs) : (updateConfig f s).pending = s.pending := rfl
@[simp] theorem updateConfig_busLog (f : ConfigRegs → ConfigRegs) : (updateConfig f s).busLog = s.busLog := rfl
@[simp] theorem updateConfig_qvalid (f : ConfigRegs → ConfigRegs) : (updateConfig f s).qvalid = s.qvalid := rfl
@[simp] theorem updateConfig_qdata (f : ConfigRegs → ConfigRegs) : (updateConfig f s).qdata = s.qdata := rfl
@[simp] theorem updateConfig_env (f : ConfigRegs → ConfigRegs) : (updateConfig f s).env = s.env := rfl

end Sys2Proof.Machine
end

