-- ==== Sys2Proof/Laws/Codec.lean ====
section
/-!
SUPPORT. Byte order and byte sequences: what `byteAt`, `le16`, `lowByte`, `highByte` and `decPairs` do (41_codec.md,
20_memory.md R71).
-/

namespace Sys2Proof.Machine

/-- The first byte. -/
@[simp] theorem byteAt_zero (b : Byte) (l : List Byte) : byteAt (b :: l) 0 = b := rfl

/-- A later byte. -/
@[simp] theorem byteAt_succ (b : Byte) (l : List Byte) (i : Nat) : byteAt (b :: l) (i + 1) = byteAt l i := by
  simp [byteAt]

/-- A byte past the end (notes/assumptions/7.md). -/
@[simp] theorem byteAt_nil (i : Nat) : byteAt [] i = 0 := rfl

/-- A byte of a sequence whose first bytes are left off. -/
@[simp] theorem byteAt_drop (l : List Byte) (n i : Nat) : byteAt (l.drop n) i = byteAt l (n + i) := by
  simp [byteAt, List.getD_eq_getElem?_getD]

/-- A 16-bit value by its two bytes, the less significant first. -/
theorem le16_toNat (b : List Byte) (i : Nat) :
    (le16 b i).toNat = (byteAt b i).toNat + 256 * (byteAt b (i + 1)).toNat := by
  have hx := (byteAt b i).isLt
  have hy := (byteAt b (i + 1)).isLt
  simp only [le16, BitVec.toNat_or, BitVec.toNat_shiftLeft, BitVec.toNat_setWidth, Nat.shiftLeft_eq]
  rw [Nat.mod_eq_of_lt (a := (byteAt b i).toNat) (by omega), Nat.mod_eq_of_lt (a := (byteAt b (i + 1)).toNat) (by omega),
    Nat.mod_eq_of_lt (by omega), Nat.or_comm, Nat.mul_comm, ← Nat.two_pow_add_eq_or_of_lt hx]
  omega

/-- The low byte of a 16-bit value. -/
theorem lowByte_toNat (v : Half) : (lowByte v).toNat = v.toNat % 256 := by simp [lowByte]

/-- The high byte of a 16-bit value. -/
theorem highByte_toNat (v : Half) : (highByte v).toNat = v.toNat / 256 := by
  have := v.isLt
  simp [highByte, Nat.shiftRight_eq_div_pow]
  omega

/-- The low byte of a pair read from a sequence. -/
@[simp] theorem lowByte_le16 (b : List Byte) (i : Nat) : lowByte (le16 b i) = byteAt b i := by
  apply BitVec.eq_of_toNat_eq
  have := (byteAt b i).isLt
  rw [lowByte_toNat, le16_toNat]
  omega

/-- The high byte of a pair read from a sequence. -/
@[simp] theorem highByte_le16 (b : List Byte) (i : Nat) : highByte (le16 b i) = byteAt b (i + 1) := by
  apply BitVec.eq_of_toNat_eq
  have := (byteAt b i).isLt
  rw [highByte_toNat, le16_toNat]
  omega

/-- A pair that holds the two bytes of a value is the value. -/
theorem le16_of_bytes {b : List Byte} {i : Nat} {v : Half} (hl : byteAt b i = lowByte v)
    (hh : byteAt b (i + 1) = highByte v) : le16 b i = v := by
  apply BitVec.eq_of_toNat_eq
  rw [le16_toNat, hl, hh, lowByte_toNat, highByte_toNat]
  omega

/-- Value `k` of a sequence of pairs. -/
theorem decPairs_getElem {n : Nat} {p : List Byte} {k : Nat} (h : k < (decPairs n p).length) :
    (decPairs n p)[k] = le16 p (2 * k) := by
  induction n generalizing p k with
  | zero => simp [decPairs] at h
  | succ n ih =>
    cases k with
    | zero => rfl
    | succ k =>
      simp only [decPairs, List.getElem_cons_succ, ih, le16, byteAt_drop]
      rw [show 2 + 2 * k = 2 * (k + 1) by omega, show 2 + (2 * k + 1) = 2 * (k + 1) + 1 by omega]

end Sys2Proof.Machine
end

