-- ==== Sys2Proof/Laws/Decode.lean ====
section
/-!
SUPPORT. How the fields of a word are read back: the encoder puts the opcode and the argument where the decoder
looks for them.
-/

namespace Sys2Proof

/-- The opcode of a command word. -/
@[simp] theorem opField_commandWord (op : Byte) (arg : BitVec 40) : opField (commandWord op arg) = op := by
  ext i hi
  have h88 : 40 + i < 48 := by omega
  simp [opField, commandWord, h88, BitVec.getLsbD_eq_getElem hi]

/-- A bit of the argument of a command word. -/
@[simp] theorem getLsbD_commandWord (op : Byte) (arg : BitVec 40) (k : Nat) (h : k < 40) :
    (commandWord op arg).getLsbD k = arg.getLsbD k := by
  have h48 : k < 48 := by omega
  simp [commandWord, h, h48]

/-- A field of the argument of a command word. -/
@[simp] theorem extractLsb'_commandWord (op : Byte) (arg : BitVec 40) (at_ k : Nat) (h : at_ + k ≤ 40) :
    (commandWord op arg).extractLsb' at_ k = arg.extractLsb' at_ k := by
  ext i hi
  have h40 : at_ + i < 40 := by omega
  simp only [BitVec.getElem_extractLsb', getLsbD_commandWord op arg _ h40]

/-- The whole argument of a command word. -/
@[simp] theorem argField_commandWord (op : Byte) (arg : BitVec 40) : argField (commandWord op arg) = arg := by
  ext i hi
  simp [argField]

/-- The opcode of a query word. -/
@[simp] theorem qopField_queryWord (qop : BitVec 4) (arg : BitVec 12) : qopField (queryWord qop arg) = qop := by
  ext i hi
  have h24 : 12 + i < 16 := by omega
  simp [qopField, queryWord, h24, BitVec.getLsbD_eq_getElem hi]

/-- A field of the argument of a query word. -/
@[simp] theorem extractLsb'_queryWord (qop : BitVec 4) (arg : BitVec 12) (at_ k : Nat) (h : at_ + k ≤ 12) :
    (queryWord qop arg).extractLsb' at_ k = arg.extractLsb' at_ k := by
  ext i hi
  have h12 : at_ + i < 12 := by omega
  have h16 : at_ + i < 16 := by omega
  simp [queryWord, h12, h16]

/-- `which` read from its own bit. -/
@[simp] theorem ofBit_bit (which : Which) : Which.ofBit which.bit = which := by cases which <;> rfl

/-- The bit of `which` read from a bit. -/
@[simp] theorem bit_ofBit (b : Bool) : (Which.ofBit b).bit = b := by cases b <;> rfl

end Sys2Proof
end

