-- ==== Sys2Proof/Laws/PerInstr.lean ====
section
/-!
SUPPORT. Statements about every instruction, made per instruction. `OpcodeOf`: the word of an instruction carries
the opcode its row of the opcode map gives it (30_encoding.md R104, R107), whatever its operands.
-/

namespace Sys2Proof.Laws

/-- The `op` column of the opcode map (R104) and the `qop` column of the query map (R107). -/
def OpcodeOf.number : Instr → Nat
  | .beginSession _ _ => 0x01
  | .identify => 0x02
  | .poll => 0x03
  | .clkq => 0x04
  | .wrcfg => 0x10
  | .wralm _ => 0x11
  | .setbuzen _ => 0x20
  | .setleden _ => 0x21
  | .setmanack _ => 0x22
  | .setrate _ => 0x23
  | .setnoise _ => 0x24
  | .setarea _ _ => 0x25
  | .setalmen _ => 0x26
  | .setbuz _ _ => 0x27
  | .setled _ _ _ => 0x28
  | .chaddr _ => 0x29
  | .almthr _ _ => 0x30
  | .almbuz _ _ _ => 0x31
  | .almled _ _ _ _ => 0x32
  | .qmir _ => 0x00
  | .qpix _ => 0x01
  | .qsum _ => 0x02
  | .qbtn _ => 0x03
  | .qpixc _ => 0x04
  | .qsumc _ => 0x05
  | .qstate => 0x06

/-- The encoded word carries the row's opcode, on the port the instruction goes to (R100, R104, R107). -/
def OpcodeOf.Statement (i : Instr) : Prop :=
  match encode i with
  | .command w => i.isCommand = true ∧ (opField w).toNat = OpcodeOf.number i
  | .query q => i.isCommand = false ∧ (qopField q).toNat = OpcodeOf.number i

/-- How a command meets it. -/
theorem opcodeOf_command {i : Instr} {op : Byte} {arg : BitVec 40} (hc : i.isCommand = true)
    (he : encodeCommand i = commandWord op arg) (hn : op.toNat = OpcodeOf.number i) : OpcodeOf.Statement i := by
  simp [OpcodeOf.Statement, encode, hc, he, hn]

/-- How a query meets it. -/
theorem opcodeOf_query {i : Instr} {qop : BitVec 4} {arg : BitVec 12} (hc : i.isCommand = false)
    (he : encodeQuery i = queryWord qop arg) (hn : qop.toNat = OpcodeOf.number i) : OpcodeOf.Statement i := by
  simp [OpcodeOf.Statement, encode, hc, he, hn]

/-- `BEGIN`. -/
theorem OpcodeOf.beginSession (addr8 : Byte) (hz : Clock) :
    OpcodeOf.Statement (.beginSession addr8 hz) := opcodeOf_command rfl rfl rfl

/-- `IDENTIFY`. -/
theorem OpcodeOf.identify :
    OpcodeOf.Statement (.identify) := opcodeOf_command rfl rfl rfl

/-- `POLL`. -/
theorem OpcodeOf.poll :
    OpcodeOf.Statement (.poll) := opcodeOf_command rfl rfl rfl

/-- `CLKQ`. -/
theorem OpcodeOf.clkq :
    OpcodeOf.Statement (.clkq) := opcodeOf_command rfl rfl rfl

/-- `WRCFG`. -/
theorem OpcodeOf.wrcfg :
    OpcodeOf.Statement (.wrcfg) := opcodeOf_command rfl rfl rfl

/-- `WRALM`. -/
theorem OpcodeOf.wralm (which : Which) :
    OpcodeOf.Statement (.wralm which) := opcodeOf_command rfl rfl rfl

/-- `SETBUZEN`. -/
theorem OpcodeOf.setbuzen (v : Bool) :
    OpcodeOf.Statement (.setbuzen v) := opcodeOf_command rfl rfl rfl

/-- `SETLEDEN`. -/
theorem OpcodeOf.setleden (v : Bool) :
    OpcodeOf.Statement (.setleden v) := opcodeOf_command rfl rfl rfl

/-- `SETMANACK`. -/
theorem OpcodeOf.setmanack (v : Bool) :
    OpcodeOf.Statement (.setmanack v) := opcodeOf_command rfl rfl rfl

/-- `SETRATE`. -/
theorem OpcodeOf.setrate (n : Byte) :
    OpcodeOf.Statement (.setrate n) := opcodeOf_command rfl rfl rfl

/-- `SETNOISE`. -/
theorem OpcodeOf.setnoise (n : Byte) :
    OpcodeOf.Statement (.setnoise n) := opcodeOf_command rfl rfl rfl

/-- `SETAREA`. -/
theorem OpcodeOf.setarea (w h : Byte) :
    OpcodeOf.Statement (.setarea w h) := opcodeOf_command rfl rfl rfl

/-- `SETALMEN`. -/
theorem OpcodeOf.setalmen (v : Byte) :
    OpcodeOf.Statement (.setalmen v) := opcodeOf_command rfl rfl rfl

/-- `SETBUZ`. -/
theorem OpcodeOf.setbuz (freq : Half) (vol : Byte) :
    OpcodeOf.Statement (.setbuz freq vol) := opcodeOf_command rfl rfl rfl

/-- `SETLED`. -/
theorem OpcodeOf.setled (r g b : Byte) :
    OpcodeOf.Statement (.setled r g b) := opcodeOf_command rfl rfl rfl

/-- `CHADDR`. -/
theorem OpcodeOf.chaddr (v : Byte) :
    OpcodeOf.Statement (.chaddr v) := opcodeOf_command rfl rfl rfl

/-- `ALMTHR`. -/
theorem OpcodeOf.almthr (which : Which) (raw : Half) :
    OpcodeOf.Statement (.almthr which raw) := opcodeOf_command rfl rfl rfl

/-- `ALMBUZ`. -/
theorem OpcodeOf.almbuz (which : Which) (freq : Half) (interval : Byte) :
    OpcodeOf.Statement (.almbuz which freq interval) := opcodeOf_command rfl rfl rfl

/-- `ALMLED`. -/
theorem OpcodeOf.almled (which : Which) (r g b : Byte) :
    OpcodeOf.Statement (.almled which r g b) := opcodeOf_command rfl rfl rfl

/-- `QMIR`. -/
theorem OpcodeOf.qmir (addr : Byte) :
    OpcodeOf.Statement (.qmir addr) := opcodeOf_query rfl rfl rfl

/-- `QPIX`. -/
theorem OpcodeOf.qpix (idx : BitVec 12) :
    OpcodeOf.Statement (.qpix idx) := opcodeOf_query rfl rfl rfl

/-- `QSUM`. -/
theorem OpcodeOf.qsum (sel : BitVec 4) :
    OpcodeOf.Statement (.qsum sel) := opcodeOf_query rfl rfl rfl

/-- `QBTN`. -/
theorem OpcodeOf.qbtn (bit : BitVec 3) :
    OpcodeOf.Statement (.qbtn bit) := opcodeOf_query rfl rfl rfl

/-- `QPIXC`. -/
theorem OpcodeOf.qpixc (idx : BitVec 12) :
    OpcodeOf.Statement (.qpixc idx) := opcodeOf_query rfl rfl rfl

/-- `QSUMC`. -/
theorem OpcodeOf.qsumc (sel : BitVec 4) :
    OpcodeOf.Statement (.qsumc sel) := opcodeOf_query rfl rfl rfl

/-- `QSTATE`. -/
theorem OpcodeOf.qstate :
    OpcodeOf.Statement (.qstate) := opcodeOf_query rfl rfl rfl

end Sys2Proof.Laws
end

