-- ==== Sys2Proof/Laws/Sequencer.lean ====
section
/-!
SUPPORT. What the shared operations can do, each said once: receiving a read, the two exits, one sequencer step, a
run of the sequencer, a presented command, a query.
-/

namespace Sys2Proof.Machine

/-! The bus port -/

/-- A read brings bytes exactly when it succeeded with the full length (20_memory.md R62, R67). -/
theorem received_eq_some {n : Nat} {a : Answer} {b : List Byte} :
    received n a = some b ↔ a.ok = true ∧ a.data.length = n ∧ a.data = b := by
  simp [received, and_assoc]

/-- A read that failed or fell short brings nothing. -/
theorem received_eq_none {n : Nat} {a : Answer} :
    received n a = none ↔ a.ok = false ∨ a.data.length ≠ n := by
  cases h : a.ok <;> simp [received, h]

/-- A write, a failed read and a read without `hold` leave the bus free (20_memory.md R61, R62, R67). -/
theorem holdingAfter_of_transfer {r : BusRequest} (a : Answer) (before : Bool) (h : isTransfer r = true)
    (hold : holdingAfter r a before = true) :
    (∃ x idx n, r = .wrRd x idx n true ∧ (received n a).isSome) ∨
      ∃ x n, r = .rdMore x n true ∧ (received n a).isSome := by
  cases r <;> simp_all [holdingAfter, isTransfer]

/-! The failure exit -/

/-- With a clock bracket open the failure goes to its exit state (60_exceptions.md R310). -/
theorem raiseFail_open {c : Cause} {s : State} {e : Seq} (h : openBracketExit s.seq = some e) :
    raiseFail c s = { s with seq := e, outcome := c } := by simp [raiseFail, h]

/-- With none open the command ends at once (60_exceptions.md R310). -/
theorem raiseFail_closed {c : Cause} {s : State} (h : openBracketExit s.seq = none) :
    raiseFail c s = endFail c s := by simp [raiseFail, h]

/-- The end of a bracket that held a success (60_exceptions.md R311). -/
theorem endWith_ok {v : BitVec 32} {s : State} (h : s.outcome = .none) : endWith v s = endOk v s := by
  simp [endWith, h]

/-- The end of a bracket that held a failure (60_exceptions.md R310). -/
theorem endWith_fail {v : BitVec 32} {s : State} (h : s.outcome ≠ .none) : endWith v s = endFail s.outcome s := by
  simp [endWith, h]

/-! One sequencer step -/

/-- At IDLE the sequencer does nothing. -/
theorem seqStep_idle {p : Plan} {s : State} (h : s.seq = .idle) : seqStep p s = none := by simp [seqStep, h]

/-- With no request outstanding the sequencer advances. -/
theorem seqStep_advance {p : Plan} {s : State} (h : s.seq ≠ .idle) (hp : s.pending = none) :
    seqStep p s = some (advance p s) := by simp [seqStep, h, hp]

/-- With an answer the sequencer responds to it. -/
theorem seqStep_respond {p : Plan} {s : State} {r : BusRequest} {a : Answer} {rest : List Event} (h : s.seq ≠ .idle)
    (hp : s.pending = some r) (he : s.env = .answer a :: rest) :
    seqStep p s = some (respond p r a (settle r a { s with env := rest })) := by simp [seqStep, h, hp, he]

/-- What one sequencer step can be. -/
theorem seqStep_cases {p : Plan} {s t : State} (h : seqStep p s = some t) :
    s.seq ≠ .idle ∧
      ((s.pending = none ∧ t = advance p s) ∨
        ∃ r a rest, s.pending = some r ∧ s.env = .answer a :: rest ∧
          t = respond p r a (settle r a { s with env := rest })) := by
  unfold seqStep at h
  split at h
  · cases h
  · refine ⟨‹_›, ?_⟩
    split at h
    · exact .inl ⟨‹_›, by simpa using h.symm⟩
    · split at h
      · exact .inr ⟨_, _, _, ‹_›, ‹_›, by simpa using h.symm⟩
      · cases h

/-- When the sequencer does nothing it is at IDLE, or its request has no answer yet. -/
theorem seqStep_eq_none {p : Plan} {s : State} (h : seqStep p s = none) :
    s.seq = .idle ∨ (∃ r, s.pending = some r) ∧ ∀ a rest, s.env ≠ .answer a :: rest := by
  by_cases hs : s.seq = .idle
  · exact .inl hs
  · refine .inr ?_
    cases hp : s.pending with
    | none => simp [seqStep_advance hs hp] at h
    | some r =>
      refine ⟨⟨r, rfl⟩, fun a rest he => ?_⟩
      simp [seqStep_respond hs hp he] at h

/-! A run of the sequencer -/

/-- A run that cannot step stays. -/
theorem run_stop {p : Plan} {s : State} (n : Nat) (h : seqStep p s = none) : run p n s = s := by
  cases n <;> simp [run, h]

/-- A run takes its first step. -/
theorem run_step {p : Plan} {s t : State} (n : Nat) (h : seqStep p s = some t) :
    run p (n + 1) s = run p n t := by simp [run, h]

/-- A property every sequencer step keeps is kept by a run. -/
theorem run_keeps {p : Plan} {P : State → Prop} (hP : ∀ s t, P s → seqStep p s = some t → P t) (n : Nat) (s : State)
    (h : P s) : P (run p n s) := by
  induction n generalizing s with
  | zero => exact h
  | succ n ih =>
    cases hs : seqStep p s with
    | none => rwa [run_stop _ hs]
    | some t => rw [run_step _ hs]; exact ih t (hP s t h hs)

/-- A run whose measure falls with every step ends where no step is possible. -/
theorem run_quiet {p : Plan} (rank : State → Nat) (hr : ∀ s t, seqStep p s = some t → rank t < rank s) (n : Nat)
    (s : State) (h : rank s ≤ n) : seqStep p (run p n s) = none := by
  induction n generalizing s with
  | zero =>
    cases hs : seqStep p s with
    | none => exact hs
    | some t => exact absurd (hr s t hs) (by omega)
  | succ n ih =>
    cases hs : seqStep p s with
    | none => rwa [run_stop _ hs]
    | some t =>
      rw [run_step _ hs]
      exact ih t (by have := hr s t hs; omega)

/-- The same with a property `P` that every step keeps, under which the measure falls. -/
theorem run_quiet_of {p : Plan} {P : State → Prop} (hP : ∀ s t, P s → seqStep p s = some t → P t)
    (rank : State → Nat) (hr : ∀ s t, P s → seqStep p s = some t → rank t < rank s) (n : Nat) (s : State) (hs : P s)
    (h : rank s ≤ n) : seqStep p (run p n s) = none := by
  induction n generalizing s with
  | zero =>
    cases hq : seqStep p s with
    | none => exact hq
    | some t => exact absurd (hr s t hs hq) (by omega)
  | succ n ih =>
    cases hq : seqStep p s with
    | none => rwa [run_stop _ hq]
    | some t =>
      rw [run_step _ hq]
      exact ih t (hP s t hs hq) (by have := hr s t hs hq; omega)

/-- A run in two parts. -/
theorem run_add {p : Plan} (m n : Nat) (s : State) : run p (m + n) s = run p n (run p m s) := by
  induction m generalizing s with
  | zero => simp [run]
  | succ m ih =>
    cases hq : seqStep p s with
    | none => rw [run_stop _ hq, run_stop _ hq, run_stop _ hq]
    | some t => rw [run_step _ hq, Nat.succ_add, run_step _ hq, ih]

/-- Once a run is quiet more fuel changes nothing. -/
theorem run_more {p : Plan} {n : Nat} {s : State} (h : seqStep p (run p n s) = none) (k : Nat) :
    run p (n + k) s = run p n s := by rw [run_add, run_stop _ h]

/-! A presented command -/

/-- While another command runs the word is not accepted (60_exceptions.md R307). -/
theorem command_busy {i : Instr} {p : Plan} {s : State} (h : s.busy = true) : command i p s = s := by
  simp [command, h]

/-- A command whose first check fails ends at once (60_exceptions.md R310, R313). -/
theorem command_refused {i : Instr} {p : Plan} {s : State} {c : Cause} (h : Ready s) (hc : p.check s = some c) :
    command i p s = endFail c { s with cur := encodeCommand i, busy := true } := by
  have hr : accept i p s = endFail c { s with cur := encodeCommand i, busy := true } := by
    simp [accept, hc, raiseFail, openBracketExit, h.seq]
  simp only [command, h.busy, hr, Bool.false_eq_true, if_false]
  exact run_stop _ (seqStep_idle rfl)

/-- A command that passes its checks runs from its first state. -/
theorem command_runs {i : Instr} {p : Plan} {s : State} (h : s.busy = false) (hc : p.check s = none) :
    command i p s = run p fuel { s with cur := encodeCommand i, busy := true, seq := p.first } := by
  simp [command, accept, h, hc]

/-! Queries -/

/-- A query answers on the query port and changes nothing else (45_accessors.md R270). -/
theorem replyWhen_cases (present : Bool) (v : Option (BitVec 32)) (s : State) :
    (∃ d, v = some d ∧ present = true ∧ replyWhen present v s = reply true d s) ∨
      replyWhen present v s = reply false 0 s := by
  cases present <;> cases v <;> simp [replyWhen, replyInvalid]

end Sys2Proof.Machine
end

