-- ==== Sys2Proof/Laws/Run.lean ====
section
/-!
SUPPORT. Whole stretches of a run: one request and its answer, the opening of a clock bracket, a whole
identification, a whole block write. Each says once what that stretch does.
-/

namespace Sys2Proof.Machine

/-- With no request outstanding a run goes on from what the sequencer state does. -/
theorem run_advance {p : Plan} {s : State} (n : Nat) (h : s.seq ≠ .idle) (hp : s.pending = none) :
    run p (n + 1) s = run p n (advance p s) := run_step n (seqStep_advance h hp)

/-- An outstanding request and its answer. -/
theorem run_respond {p : Plan} {s : State} {r : BusRequest} {a : Answer} {rest : List Event} (n : Nat)
    (h : s.seq ≠ .idle) (hp : s.pending = some r) (he : s.env = .answer a :: rest) :
    run p (n + 1) s = run p n (respond p r a (settle r a { s with env := rest })) :=
  run_step n (seqStep_respond h hp he)

/-- A request from its issue to its answer. -/
theorem run_request {p : Plan} {s : State} {r : BusRequest} {a : Answer} {rest : List Event} (n : Nat)
    (h : s.seq ≠ .idle) (hp : s.pending = none) (hr : advance p s = issue r s) (he : s.env = .answer a :: rest) :
    run p (n + 2) s =
      run p n (respond p r a
        { s with pending := none, busLog := s.busLog ++ [r], holding := holdingAfter r a s.holding, env := rest }) := by
  rw [run_advance (n + 1) h hp, hr, run_respond n (s := issue r s) h rfl (by simpa [issue] using he)]
  rfl

/-- The first state of a bracket, the state after it and the operation clock (20_memory.md R84). -/
def bracketHead (q nxt : Seq) (clock : State → Clock) : Prop :=
  (q = .idClk ∧ nxt = .idRead ∧ clock = (·.baseClock)) ∨ (q = .wrClk ∧ nxt = .wrWrite ∧ clock = (·.baseClock)) ∨
    (q = .plClk ∧ nxt = .plStatus ∧ clock = scaledClock)

/-- A clock bracket opens: `ClkGet` saves the clock, `ClkSet` sets the operation clock (20_memory.md R84). -/
theorem run_bracket {p : Plan} {s : State} {q nxt : Seq} {clock : State → Clock} {g c : Answer} {rest : List Event}
    (n : Nat) (hb : bracketHead q nxt clock) (hq : s.seq = q) (hp : s.pending = none)
    (he : s.env = .answer g :: .answer c :: rest) :
    run p (n + 3) s =
      run p n { s with seq := nxt, savedClock := g.hz, pending := none, env := rest,
                       busLog := s.busLog ++ [.clkGet, .clkSet (clock s)] } := by
  have h : s.seq ≠ .idle := by rw [hq]; rcases hb with ⟨rfl, -⟩ | ⟨rfl, -⟩ | ⟨rfl, -⟩ <;> decide
  rw [show n + 3 = (n + 1) + 2 from rfl, run_request (r := .clkGet) (n + 1) h hp
    (by rcases hb with ⟨rfl, -⟩ | ⟨rfl, -⟩ | ⟨rfl, -⟩ <;> simp [advance, hq]) he]
  rcases hb with ⟨rfl, rfl, rfl⟩ | ⟨rfl, rfl, rfl⟩ | ⟨rfl, rfl, rfl⟩ <;>
    (rw [run_respond n (r := .clkSet _) (a := c) (rest := rest) (by simp [respond, hq, bracketOpened, issue])
      (by simp [respond, hq, bracketOpened, issue]; rfl) (by simp [respond, hq, bracketOpened, issue])]
     simp [respond, hq, bracketOpened, issue, settle, holdingAfter, scaledClock])

/-- A whole identification up to what its caller does with the result: the bracket, the snapshot read `r`, the
check and the load, the restore (42_identify.md R171, R172). -/
theorem run_identification {p : Plan} {s : State} {g c r e : Answer} {rest : List Event} (n : Nat)
    (hq : s.seq = .idClk) (hp : s.pending = none) (hh : s.holding = false)
    (he : s.env = .answer g :: .answer c :: .answer r :: .answer e :: rest) :
    run p (n + 8) s =
      run p n (identReturned p { identCheck { s with
        seq := .idCheck, savedClock := g.hz, pending := none, snap := received 56 r, env := rest,
        busLog := s.busLog ++ [.clkGet, .clkSet s.baseClock, .wrRd s.busAddr 0x00 56 false, .clkSet g.hz] } with
          seq := .idExit }) := by
  rw [show n + 8 = (n + 5) + 3 from rfl, run_bracket (n + 5) (.inl ⟨rfl, rfl, rfl⟩) hq hp he,
    show n + 5 = (n + 3) + 2 from rfl,
    run_request (r := .wrRd s.busAddr 0x00 56 false) (a := r) (rest := .answer e :: rest) (n + 3) (by simp) rfl
      (by simp [advance]) rfl]
  simp only [respond]
  rw [show n + 3 = (n + 2) + 1 from rfl, run_advance (n + 2) (by simp) rfl]
  simp only [advance, identCheck]
  cases hr : received 56 r with
  | none =>
    simp only [raiseFail, openBracketExit]
    rw [run_request (r := .clkSet g.hz) (a := e) (rest := rest) n (by simp) rfl (by simp [advance]) rfl]
    simp [respond, holdingAfter, hr, hh]
  | some b =>
    simp only []
    split
    · rw [run_request (r := .clkSet g.hz) (a := e) (rest := rest) n (by simp) rfl
        (by simp [advance, loadMirrors]) rfl]
      simp [respond, holdingAfter, hr, hh, loadMirrors]
    · simp only [raiseFail, openBracketExit]
      rw [run_request (r := .clkSet g.hz) (a := e) (rest := rest) n (by simp) rfl (by simp [advance]) rfl]
      simp [respond, holdingAfter, hr, hh]

/-- A block write depends on the address and the mirrors only (43_config_writer.md R193). -/
theorem blockRequest_congr (b : Block) {s t : State} (ha : t.busAddr = s.busAddr) (hc : t.cf = s.cf)
    (hl : t.al = s.al) (hh : t.ah = s.ah) : blockRequest b t = blockRequest b s := by
  rcases b with _ | _ | _ <;> simp [blockRequest, blockBytes, alarmOf, ha, hc, hl, hh]

/-- A whole block write up to the end of its command: the bracket, the write `w`, the restore, then the tracker and
the command's own last lines, or the failure (43_config_writer.md R192). -/
theorem run_blockWrite {p : Plan} {s : State} {g c w e : Answer} {rest : List Event} (n : Nat)
    (hq : s.seq = .wrClk) (hp : s.pending = none)
    (he : s.env = .answer g :: .answer c :: .answer w :: .answer e :: rest) :
    run p (n + 7) s =
      run p n (writeFinished p.commit { s with
        seq := .wrExit, savedClock := g.hz, pending := none, holding := false, env := rest,
        outcome := if w.ok then .none else .transport,
        busLog := s.busLog ++ [.clkGet, .clkSet s.baseClock, blockRequest p.block s, .clkSet g.hz] }) := by
  rw [show n + 7 = (n + 4) + 3 from rfl, run_bracket (n + 4) (.inr (.inl ⟨rfl, rfl, rfl⟩)) hq hp he,
    show n + 4 = (n + 2) + 2 from rfl,
    run_request (r := blockRequest p.block s) (a := w) (rest := .answer e :: rest) (n + 2) (by simp) rfl
      (by simp only [advance]; rw [blockRequest_congr p.block] <;> rfl) rfl]
  cases ho : w.ok <;>
  · simp only [respond, blockWritten, wrote, ho, raiseFail, openBracketExit, if_true, if_false, Bool.false_eq_true]
    rw [run_request (r := .clkSet g.hz) (a := e) (rest := rest) n (by simp) rfl (by simp [advance]) rfl]
    simp [respond, holdingAfter, blockRequest]

end Sys2Proof.Machine
end

