-- ==== Sys2Proof/Laws/Plans.lean ====
section
/-!
SUPPORT. What a command's plan can be, and that a command is its plan run by the sequencer.
-/

namespace Sys2Proof.Machine

/-- A command is its plan, presented. -/
theorem exec_command {i : Instr} (s : State) (h : i.isCommand = true) :
    ∃ p, planOf i = some p ∧ exec i s = .next (command i p s) := by
  cases i <;> first | exact ⟨_, rfl, rfl⟩ | cases h

/-- The same with the plan given. -/
theorem exec_command_of_plan {i : Instr} {p : Plan} (s : State) (h : planOf i = some p) :
    exec i s = .next (command i p s) := by
  cases i <;> cases h <;> rfl

/-- A query has no plan, and a command has one. -/
theorem planOf_isSome (i : Instr) : (planOf i).isSome = i.isCommand := by cases i <;> rfl

/-- What a plan can be: a session command, a poll, a clock query, a whole block write, a mutator of a block, or the
address change. -/
theorem planOf_cases {i : Instr} {p : Plan} (h : planOf i = some p) :
    (∃ a hz, i = .beginSession a hz ∧ p = planBegin a hz) ∨ (i = .identify ∧ p = planIdentify) ∨
      (i = .poll ∧ p = planPoll) ∨ (i = .clkq ∧ p = planClkq) ∨ (∃ b, p = writerPlan b) ∨
      (∃ f, p = configMutator f) ∨ (∃ which f, p = alarmMutator which f) ∨ ∃ v, i = .chaddr v ∧ p = planChaddr v := by
  cases i <;> cases h
  case beginSession a hz => exact .inl ⟨a, hz, rfl, rfl⟩
  case identify => exact .inr (.inl ⟨rfl, rfl⟩)
  case poll => exact .inr (.inr (.inl ⟨rfl, rfl⟩))
  case clkq => exact .inr (.inr (.inr (.inl ⟨rfl, rfl⟩)))
  case wrcfg => exact .inr (.inr (.inr (.inr (.inl ⟨_, rfl⟩))))
  case wralm which => exact .inr (.inr (.inr (.inr (.inl ⟨_, rfl⟩))))
  case chaddr v => exact .inr (.inr (.inr (.inr (.inr (.inr (.inr ⟨v, rfl, rfl⟩))))))
  case almthr => exact .inr (.inr (.inr (.inr (.inr (.inr (.inl ⟨_, _, rfl⟩))))))
  case almbuz => exact .inr (.inr (.inr (.inr (.inr (.inr (.inl ⟨_, _, rfl⟩))))))
  case almled => exact .inr (.inr (.inr (.inr (.inr (.inr (.inl ⟨_, _, rfl⟩))))))
  all_goals exact .inr (.inr (.inr (.inr (.inr (.inl ⟨_, rfl⟩)))))

/-- What a step can be, by the environment's next event. -/
theorem step_cases {s t : State} (h : step s = .next t) :
    (s.env = [] ∧ t = s) ∨
      (∃ w i rest, s.env = .port w :: rest ∧ decode w = .ok i ∧ exec i { s with env := rest } = .next t) ∨
      (∃ w e rest, s.env = .port w :: rest ∧ decode w = .error e ∧ t = illegalWord w { s with env := rest }) ∨
      (∃ a rest, s.env = .answer a :: rest ∧ s.seq = .idle ∧ t = { s with env := rest }) ∨
      (∃ a rest p, s.env = .answer a :: rest ∧ s.seq ≠ .idle ∧ planOfWord s.cur = some p ∧ t = run p fuel s) ∨
      ∃ rest, s.env = .reset :: rest ∧ t = resetBlock { s with env := rest } := by
  unfold step at h
  split at h
  · exact .inl ⟨‹_›, by simpa using h.symm⟩
  · split at h
    · exact .inr (.inl ⟨_, _, _, ‹_›, ‹_›, h⟩)
    · exact .inr (.inr (.inl ⟨_, _, _, ‹_›, ‹_›, by simpa using h.symm⟩))
  · rename_i a rest he
    unfold resume at h
    split at h
    · exact .inr (.inr (.inr (.inl ⟨a, rest, he, ‹_›, by simpa [he] using h.symm⟩)))
    · split at h
      · exact .inr (.inr (.inr (.inr (.inl ⟨a, rest, _, he, ‹_›, ‹_›, by simpa using h.symm⟩))))
      · cases h
  · exact .inr (.inr (.inr (.inr (.inr ⟨_, ‹_›, by simpa using h.symm⟩))))

end Sys2Proof.Machine
end

