-- ==== Sys2Proof/Tests/Slice0.lean ====
section
/-!
SUPPORT. Tests. Words and expected results are those of spec/95_test_vectors.md (2.1 to 2.7) and 30_encoding.md
R116, written out by hand; the identification bytes are `Config.id0Const` and `Config.id1Const`, which no proof can
evaluate, where the vectors write A5 and 5A for the example. The witnesses at the end meet the hypotheses of the
statements of Certificates/Slice0/Obligations.lean.
-/

namespace Sys2Proof.Tests

open Sys2Proof.Machine

/-! ## Well-formedness -/

/-- `SETRATE` takes 3 bits (95_test_vectors.md 2.7). -/
theorem test_wellFormed_setrate_8_refused : (Instr.setrate 8).wellFormed = false := by decide
theorem test_wellFormed_setrate_7 : (Instr.setrate 7).wellFormed = true := by decide
/-- `SETNOISE` takes 4 bits (95_test_vectors.md 2.7). -/
theorem test_wellFormed_setnoise_16_refused : (Instr.setnoise 16).wellFormed = false := by decide
theorem test_wellFormed_setnoise_15 : (Instr.setnoise 15).wellFormed = true := by decide

/-! ## Decoding, one hand-written word for every constructor (R103, R104, R107, R116) -/

theorem test_decode_begin : decodeCommand 0x0132000186A0#48 = .ok (.beginSession 0x32 100000) := by decide
theorem test_decode_identify : decodeCommand 0x020000000000#48 = .ok .identify := by decide
theorem test_decode_poll : decodeCommand 0x030000000000#48 = .ok .poll := by decide
theorem test_decode_clkq : decodeCommand 0x040000000000#48 = .ok .clkq := by decide
theorem test_decode_wrcfg : decodeCommand 0x100000000000#48 = .ok .wrcfg := by decide
theorem test_decode_wralm : decodeCommand 0x110000000001#48 = .ok (.wralm .hi) := by decide
theorem test_decode_setbuzen : decodeCommand 0x200000000001#48 = .ok (.setbuzen true) := by decide
theorem test_decode_setleden : decodeCommand 0x210000000000#48 = .ok (.setleden false) := by decide
theorem test_decode_setmanack : decodeCommand 0x220000000001#48 = .ok (.setmanack true) := by decide
theorem test_decode_setrate : decodeCommand 0x230000000006#48 = .ok (.setrate 6) := by decide
theorem test_decode_setnoise : decodeCommand 0x24000000000F#48 = .ok (.setnoise 15) := by decide
theorem test_decode_setarea : decodeCommand 0x250000000503#48 = .ok (.setarea 3 5) := by decide
theorem test_decode_setalmen : decodeCommand 0x260000000081#48 = .ok (.setalmen 0x81) := by decide
theorem test_decode_setbuz : decodeCommand 0x270000800FA0#48 = .ok (.setbuz 4000 128) := by decide
theorem test_decode_setled : decodeCommand 0x280000FF0010#48 = .ok (.setled 255 0 16) := by decide
theorem test_decode_chaddr : decodeCommand 0x290000000040#48 = .ok (.chaddr 0x40) := by decide
theorem test_decode_almthr : decodeCommand 0x300000012F00#48 = .ok (.almthr .hi 12032) := by decide
theorem test_decode_almbuz : decodeCommand 0x3100010307D0#48 = .ok (.almbuz .hi 2000 3) := by decide
theorem test_decode_almled : decodeCommand 0x320000010203#48 = .ok (.almled .lo 1 2 3) := by decide
theorem test_decode_qmir : decodeQuery 0x0011#16 = .ok (.qmir 0x11) := by decide
theorem test_decode_qpix : decodeQuery 0x117F#16 = .ok (.qpix 383) := by decide
theorem test_decode_qsum : decodeQuery 0x2008#16 = .ok (.qsum 8) := by decide
theorem test_decode_qbtn : decodeQuery 0x3003#16 = .ok (.qbtn 3) := by decide
theorem test_decode_qpixc : decodeQuery 0x4100#16 = .ok (.qpixc 256) := by decide
theorem test_decode_qsumc : decodeQuery 0x5005#16 = .ok (.qsumc 5) := by decide
theorem test_decode_qstate : decodeQuery 0x6000#16 = .ok .qstate := by decide

/-- Illegal words of 95_test_vectors.md 2.7. -/
theorem test_decode_illegal_commands :
    [0x000000000000#48, 0x030000000001#48, 0x050000000000#48, 0x120000000000#48, 0x2A0000000000#48,
     0x330000000000#48, 0xFF0000000000#48, 0x230000000008#48, 0x240000000010#48, 0x110000000002#48,
     0x300000020000#48, 0x310002000000#48, 0x290000000100#48].all
      (fun w => decodeTableWord 48 w.toNat == none) = true := by decide
theorem test_decode_illegal_queries :
    [0x0100#16, 0x7000#16, 0xFFFF#16].all (fun q => decodeTableWord 16 q.toNat == none) = true := by decide
theorem test_decode_legal_extremes :
    decodeCommand 0x01FF00000000#48 = .ok (.beginSession 0xFF 0) ∧
      decodeCommand 0x2900000000FF#48 = .ok (.chaddr 0xFF) := by decide

/-! ## Codec, scaler, conversion (95_test_vectors.md 2.1, 2.2, 2.6) -/

theorem test_encConfig :
    encConfig { addr := 0x40, addrInv := 0xBF, funcCtrl := 0x07, refreshRate := 6, noiseFilter := 8, rsv0 := 0,
                rsv1 := 0, rsv2 := 0, monitorArea := 0xFF, alarmEnable := 0x81, buzzerFreq := 4000,
                buzzerVol := 128, ledR := 255, ledG := 0, ledB := 16 } =
      [0x40, 0xBF, 7, 6, 8, 0, 0, 0, 0xFF, 0x81, 0xA0, 0x0F, 0x80, 0xFF, 0x00, 0x10] := by decide
theorem test_decAlarm :
    decAlarm [0xFF, 0xFF, 0, 0, 3, 1, 2, 3] =
      { threshold := 65535, buzzerFreq := 0, interval := 3, ledR := 1, ledG := 2, ledB := 3 } := by decide
theorem test_decRefresh :
    decRefresh [0xFE, 0x01] = (false, 0x01) ∧ decRefresh [0xFF, 0x7F] = (true, 0x7F) := by decide
theorem test_decOverview :
    decOverview [0x80, 0x2C, 0x90, 0x2C, 0x00, 0x30, 3, 4, 0x00, 0x28, 1, 2, 0x00, 0x30, 0x0F, 0x17] =
      { median := 0x2C80, average := 0x2C90, mostDiff := 0x3000, mostDiffX := 3, mostDiffY := 4, lowest := 0x2800,
        lowestX := 1, lowestY := 2, highest := 0x3000, highestX := 15, highestY := 23 } := by decide
theorem test_packArea :
    packArea 20 20 = 0xFF ∧ packArea 3 5 = 0x53 ∧ packArea 16 0 = 0x0F ∧ packArea 0 255 = 0xF0 := by decide
theorem test_clockScale :
    clockScale 0 0 = 6250 ∧ clockScale 3 100000 = 100000 ∧ clockScale 5 100000 = 200000 ∧
      clockScale 7 800001 = 800001 ∧ clockScale 7 0xFFFFFFFF = 0xFFFFFFFF := by decide
theorem floorIs {q : ℚ} {z : Int} (h : (z : ℚ) ≤ q ∧ q < z + 1) : q.floor = z := Int.floor_eq_iff.mpr h
theorem test_celsiusToRaw_tie : celsiusToRaw (6401 / 256) = 11393 := by
  have h : Rat.floor 11393 = 11393 := floorIs (by norm_num)
  norm_num [celsiusToRaw, roundHalfAway, clampRaw, h]
  rfl
theorem test_celsiusToRaw_clamps : celsiusToRaw (-100) = 0 ∧ celsiusToRaw 1000 = 65535 := by
  have h1 : (9217 / 2 : ℚ).floor = 4608 := floorIs (by norm_num)
  have h2 : (272385 / 2 : ℚ).floor = 136192 := floorIs (by norm_num)
  constructor <;> norm_num [celsiusToRaw, roundHalfAway, clampRaw, h1, h2] <;> rfl
theorem test_frameRate : frameRateHz 0 = 1 / 2 ∧ frameRateHz 7 = 64 := by
  constructor
  · show (1 / 2 : ℚ) * 2 ^ 0 = 1 / 2
    norm_num
  · show (1 / 2 : ℚ) * 2 ^ 7 = 64
    norm_num

/-! ## A session to run one step on -/

/-- A complete answer; the transport's clock is 400000 in the vectors. -/
def good (b : List Byte) : Answer := { ok := true, data := b, hz := 400000 }

/-- A failed transfer. -/
def bad : Answer := { ok := false, data := [], hz := 400000 }

/-- The reference snapshot `S0`. -/
def snap0 : List Byte :=
  [0, 0, 0, 0, Config.id0Const, Config.id1Const, 1, 2] ++
  [0x32, 0xCD, 3, 6, 0, 0, 0, 0, 0, 0, 0, 0, 0, 0, 0, 0] ++ List.replicate 8 0xEE ++
  [0x00, 0x2A, 0xE8, 0x03, 0x0A, 0x00, 0x00, 0xFF] ++ List.replicate 8 0xEE ++
  [0x00, 0x2F, 0xD0, 0x07, 0x0A, 0xFF, 0x00, 0x00]

/-- The overview `OV`. -/
def ov : List Byte := [0x80, 0x2C, 0x90, 0x2C, 0x00, 0x30, 3, 4, 0x00, 0x28, 1, 2, 0x00, 0x30, 0x0F, 0x17]

/-- Chunk `c` of the pixels `PX`. -/
def px (c : Nat) : List Byte :=
  (List.range 64).flatMap fun k => [BitVec.ofNat 8 (64 * c + k), BitVec.ofNat 8 (0x2C + (64 * c + k) / 256)]

/-- A begun session, Identified, mirrors from `S0`. -/
def sess : State := { loadMirrors snap0 State.reset with begun := true, baseClock := 100000 }

/-- The session with a frame published: `OV` and button 09. -/
def framed : State :=
  { sess with framePresent := true, st := { sess.st with button := 0x09 },
              frame := { sum := decOverview ov, pix := decPixels (px 0 ++ px 1 ++ px 2 ++ px 3 ++ px 4 ++ px 5),
                         subpage := 0 } }

/-- One step on a state that is presented the word `w` of a row of `nbits` bits and then meets `as`. -/
def after (s : State) (nbits w : Nat) (as : List Answer) : State :=
  match step ({ s with env := answers as }.withFetchWord nbits w) with
  | .next t => t
  | _ => State.reset

/-- A bracket of a block write. -/
def wrBracket (a : BusAddr) (idx : Byte) (v : List Byte) : List BusRequest :=
  [.clkGet, .clkSet 100000, .wr a idx v, .clkSet 400000]

/-- Four answers: the write is acknowledged. -/
def yes4 : List Answer := [good [], good [], good [], good []]

/-- What a query answered. -/
def ans (s : State) (q : Nat) : Bool × BitVec 32 := ((after s 16 q []).qvalid, (after s 16 q []).qdata)

/-! ## One step of each instruction (95_test_vectors.md 2.1, 2.3 to 2.6) -/

set_option maxRecDepth 20000

/-- The identification of `S0`, whatever the two constants are. -/
theorem test_identify_loads :
    (identCheck { State.reset with snap := some snap0, seq := .idCheck }).ident = true ∧
      (identCheck { State.reset with snap := some snap0, seq := .idCheck }).cf.refreshRate = 6 := by
  have h : byteAt snap0 4 = Config.id0Const ∧ byteAt snap0 5 = Config.id1Const := ⟨rfl, rfl⟩
  simp only [identCheck, if_pos h]
  exact ⟨rfl, rfl⟩
theorem test_identify_read_fails :
    (after sess 48 0x020000000000 [good [], good [], bad, good []]).ident = false ∧
      (after sess 48 0x020000000000 [good [], good [], bad, good []]).resCause = .transport := by decide
theorem test_begin_all_fail :
    (after State.reset 48 0x0132000186A0 (List.replicate 79 bad)).resCause = .transport ∧
      ((after State.reset 48 0x0132000186A0 (List.replicate 79 bad)).busLog.filter (· == .delay 16)).length = 15 := by
  decide
theorem test_begin_bad_address :
    (after sess 48 0x0107000186A0 []).resCause = .badAddr ∧ (after sess 48 0x0178000186A0 []).busLog = [] := by decide
theorem test_clkq : (after sess 48 0x040000000000 []).resValue = 400000 := by decide
theorem test_clkq_high_bits_ignored :
    (after { sess with cf := { sess.cf with refreshRate := 0x0E } } 48 0x040000000000 []).resValue = 400000 := by decide
theorem test_wrcfg :
    (after sess 48 0x100000000000 yes4).busLog =
      wrBracket 0x32 0x08 [0x32, 0xCD, 3, 6, 0, 0, 0, 0, 0, 0, 0, 0, 0, 0, 0, 0] := by decide
theorem test_wralm :
    (after sess 48 0x110000000001 yes4).busLog = wrBracket 0x32 0x30 [0x00, 0x2F, 0xD0, 7, 0x0A, 0xFF, 0, 0] := by decide
theorem test_setbuzen : (after sess 48 0x200000000000 yes4).cf.funcCtrl = 0x02 := by decide
theorem test_setleden : (after sess 48 0x210000000000 yes4).cf.funcCtrl = 0x01 := by decide
theorem test_setmanack :
    (after { sess with cf := { sess.cf with funcCtrl := 0xFB } } 48 0x220000000001 yes4).cf.funcCtrl = 0xFF := by decide
theorem test_setrate :
    (after sess 48 0x230000000007 yes4).busLog =
      wrBracket 0x32 0x08 [0x32, 0xCD, 3, 7, 0, 0, 0, 0, 0, 0, 0, 0, 0, 0, 0, 0] := by decide
theorem test_setrate_write_fails :
    (after sess 48 0x230000000007 [good [], good [], bad, good []]).cf.refreshRate = 7 ∧
      (after sess 48 0x230000000007 [good [], good [], bad, good []]).ident = false := by decide
theorem test_setnoise :
    (after { sess with cf := { sess.cf with noiseFilter := 0xF3 } } 48 0x24000000000F yes4).cf.noiseFilter = 0xFF := by
  decide
theorem test_setarea : (after sess 48 0x2500000000FF yes4).cf.monitorArea = 0x0F := by decide
theorem test_setalmen : (after sess 48 0x260000000081 yes4).cf.alarmEnable = 0x81 := by decide
theorem test_setbuz :
    (after sess 48 0x270000800FA0 yes4).busLog =
      wrBracket 0x32 0x08 [0x32, 0xCD, 3, 6, 0, 0, 0, 0, 0, 0, 0xA0, 0x0F, 0x80, 0, 0, 0] := by decide
theorem test_setled :
    (after sess 48 0x280000FF0010 yes4).busLog =
      wrBracket 0x32 0x08 [0x32, 0xCD, 3, 6, 0, 0, 0, 0, 0, 0, 0, 0, 0, 0xFF, 0, 0x10] := by decide
theorem test_chaddr :
    (after sess 48 0x290000000040 yes4).busLog =
        wrBracket 0x32 0x08 [0x40, 0xBF, 3, 6, 0, 0, 0, 0, 0, 0, 0, 0, 0, 0, 0, 0] ∧
      (after sess 48 0x290000000040 yes4).busAddr = 0x40 := by decide
theorem test_chaddr_no_session : (after State.reset 48 0x290000000005 []).resCause = .noSession := by decide
theorem test_almthr :
    (after sess 48 0x300000010000 yes4).busLog = wrBracket 0x32 0x30 [0, 0, 0xD0, 7, 0x0A, 0xFF, 0, 0] := by decide
theorem test_almbuz :
    (after sess 48 0x3100010307D0 yes4).busLog = wrBracket 0x32 0x30 [0, 0x2F, 0xD0, 7, 5, 0xFF, 0, 0] := by decide
theorem test_almled :
    (after sess 48 0x320000010203 yes4).busLog = wrBracket 0x32 0x20 [0, 0x2A, 0xE8, 3, 0x0A, 1, 2, 3] := by decide

/-- The answers of a poll with write-back, automatic acknowledgement. -/
def poll9 : List Answer :=
  [good [], good [], good [0x09, 0], good [], good [1, 1], good ov, good (px 0), good (px 1), good (px 2), good (px 3),
   good (px 4), good (px 5), good []]

theorem test_poll_publishes :
    (after sess 48 0x030000000000 poll9).frame.pix[383] = 0x2D7F ∧
      (after sess 48 0x030000000000 poll9).st.button = 0x09 ∧
      (after sess 48 0x030000000000 poll9).frame.subpage = 0x01 := by decide
theorem test_poll_not_ready :
    (after sess 48 0x030000000000 [good [], good [], good [1, 0], good [0xFE, 1], good []]).busLog =
      [.clkGet, .clkSet 400000, .wrRd 0x32 0x00 2 false, .wrRd 0x32 0x6E 2 false, .clkSet 400000] := by decide
theorem test_illegal_word : (after State.reset 48 0x000000000000 []).resCause = .illegalCmd := by decide

theorem test_qstate : ans framed 0x6000 = (true, 0x17) ∧ ans State.reset 0x6000 = (true, 0) := by decide
theorem test_qmir : ans framed 0x0000 = (true, 0x09) ∧ ans framed 0x0021 = (true, 0x2A) := by decide
theorem test_qmir_outside : ans framed 0x0018 = (false, 0) ∧ ans framed 0x0038 = (false, 0) := by decide
theorem test_qpix : ans framed 0x117F = (true, 0x2D7F) ∧ ans sess 0x1000 = (false, 0) := by decide
theorem test_qpix_sentinel : ans framed 0x1180 = (true, Config.pixelSentinel.setWidth 32) := by rfl
theorem test_qpixc : ans framed 0x4100 = (true, 3328) := by decide
theorem test_qsum : ans framed 0x200A = (true, 23) ∧ ans framed 0x200C = (false, 0) := by decide
theorem test_qsumc : ans framed 0x5005 = (true, 2048) ∧ ans framed 0x5003 = (false, 0) := by decide
theorem test_qbtn : ans framed 0x3003 = (true, 1) ∧ ans framed 0x3001 = (true, 0) := by decide

/-! ## Text (30_encoding.md R114) -/

theorem test_text : (Instr.almbuz .hi 2000 3).text = "ALMBUZ HI, 2000, 3" ∧ Instr.poll.text = "POLL" := by decide

/-! ## Witnesses: concrete states and operands that meet the hypotheses of the statements -/

/-- The block after reset waits for a command. -/
theorem ready_reset : Ready State.reset := ⟨rfl, rfl, rfl, rfl⟩

/-- The session waits for a command, whatever events stand ahead. -/
theorem ready_sess (e : List Event) : Ready { sess with env := e } := ⟨rfl, rfl, rfl, rfl⟩

/-- The session with events ahead. -/
def sessWith (as : List Answer) : State := { sess with env := answers as ++ [.reset] }

/-- The session, NotIdentified, with events ahead. -/
def lostWith (as : List Answer) : State := { sessWith as with ident := false }

/-- The same before any identification has loaded a mirror. -/
def unloaded : State := { State.reset with begun := true }

/-- A poll that waits for its last pixel chunk. -/
def polling : State :=
  { sess with busy := true, resOk := true, cur := 0x030000000000, seq := .plPixel, chunk := 5, holding := true,
              savedClock := 400000, pending := some (.rdMore 0x32 128 false), busLog := [.rdMore 0x32 128 false],
              stg := { status2 := [9, 0], refresh := [1, 1], overview := ov,
                       pixels := px 0 ++ px 1 ++ px 2 ++ px 3 ++ px 4 } }

/-- The invariant says nothing of the events ahead. -/
theorem inv_withEnv {s : State} (h : Inv s) (e : List Event) : Inv { s with env := e } :=
  ⟨h.busyIff, h.pendingFits, h.pendingLast, h.holdingIff, h.running, h.session, h.mirrorsForPoll, h.address, h.identLoaded, h.loaded,
    h.frameOk, h.identForWrite, h.identExit, h.staged2, h.staged3, h.staged4, h.stagedChunk, h.staged5, h.checked,
    h.okCause, h.failValue, h.retryBound, h.retryLive⟩

/-- The invariant holds of the waiting poll. -/
theorem inv_polling_now : Inv polling where
  busyIff := by decide
  pendingFits := fun r h => by cases h; rfl
  pendingLast := fun r h => by cases h; rfl
  holdingIff := by decide
  running := fun _ => ⟨.poll, by decide, by decide, rfl⟩
  session := fun _ _ => rfl
  mirrorsForPoll := fun _ => rfl
  address := by decide
  identLoaded := fun _ => rfl
  loaded := fun _ => ⟨rfl, rfl, rfl⟩
  frameOk := fun h => by cases h
  identForWrite := fun _ => rfl
  identExit := fun h => by cases h
  staged2 := fun _ => rfl
  staged3 := fun _ => by decide
  staged4 := fun _ => rfl
  stagedChunk := fun _ => by decide
  staged5 := fun h => absurd h (by decide)
  checked := fun h => by cases h
  okCause := fun _ => rfl
  failValue := fun h => by cases h
  retryBound := by decide
  retryLive := fun a hz h => by
    rw [show decodeCommand polling.cur = .ok .poll by decide] at h
    cases h

/-- The same, whatever events stand ahead. -/
theorem inv_polling (e : List Event) : Inv { polling with env := e } := inv_withEnv inv_polling_now e

/-- The reference snapshot is accepted. -/
theorem identifies_snap0 : identifies (good snap0) := ⟨rfl, rfl, rfl, rfl⟩

/-- A failed read is not. -/
theorem not_identifies_bad : ¬ identifies bad := fun h => absurd h.1 (by decide)

/-- A read one byte short is not. -/
theorem not_identifies_short : ¬ identifies (good (snap0.take 55)) := fun h => absurd h.2.1 (by decide)

theorem witness_DecodeEncodeCommand :
    (Instr.setrate 7).isCommand = true ∧ (Instr.setrate 7).wellFormed = true ∧
      (Instr.setnoise 15).isCommand = true ∧ (Instr.setnoise 15).wellFormed = true := by decide
theorem witness_EncodeDecodeCommand : decodeCommand 0x230000000007#48 = .ok (.setrate 7) := by decide
theorem witness_QueryEncodingRoundTrip :
    (Instr.qpix 4095).isCommand = false ∧ decodeQuery 0x1FFF#16 = .ok (.qpix 4095) := by decide
theorem witness_CodecRoundTrip : (snap0.take 8).length = 8 ∧ ov.length = 16 := by decide
theorem witness_SnapshotSplit : snap0.length = 56 := by decide
theorem witness_PixelsLittleEndian : 0 < 384 ∧ 383 < 384 := by decide
/-- The least and greatest raw value at the two ends of their intervals. -/
theorem witness_CelsiusToRawClampsAndRounds :
    ((-100 : ℚ) + 64) * 128 < 0 ∧ 65535 < ((1000 : ℚ) + 64) * 128 ∧
      (((0#16).toNat : ℚ) - 1 / 2 ≤ (-16385 / 256 + 64) * 128 ∧
        (-16385 / 256 + 64) * 128 < ((0#16).toNat : ℚ) + 1 / 2) ∧
      (((65535#16).toNat : ℚ) - 1 / 2 ≤ (57343 / 128 + 64) * 128 ∧
        (57343 / 128 + 64) * 128 < ((65535#16).toNat : ℚ) + 1 / 2) := by norm_num
theorem witness_FixedPointExact : c128 8191 = -1 ∧ c128 65535 = 57343 := by decide

theorem witness_ResetAtAnyTime : ({ polling with env := [.reset] } : State).env = .reset :: [] := rfl
theorem witness_StepRunsDecodedWord :
    (sess.withFetchWord 48 0x030000000000).env = .port (.command 0x030000000000) :: [] ∧
      decode (.command 0x030000000000) = .ok .poll ∧ decodeTableWord 48 0x030000000000 = some .poll ∧
      decodeTableWord 16 0x6000 = some .qstate := ⟨rfl, by decide, by decide, by decide⟩
theorem witness_IllegalCommandWord :
    (sess.withFetchWord 48 0).env = .port (.command 0) :: [] ∧ (∀ r ∈ commandRows, r.matches 0 = false) ∧
      (∀ r ∈ commandRows, r.matches 0x230000000008 = false) ∧ (sess.withFetchWord 48 0).busy = false :=
  ⟨rfl, by decide, by decide, rfl⟩
theorem witness_IllegalQueryWord :
    (sess.withFetchWord 16 0x7000).env = .port (.query 0x7000) :: [] ∧
      (∀ r ∈ queryRows, r.matches 0x7000 = false) ∧ (∀ r ∈ queryRows, r.matches 0x0100 = false) :=
  ⟨rfl, by decide, by decide⟩
theorem witness_BusyCommandNotAccepted :
    Instr.wrcfg.isCommand = true ∧ polling.busy = true ∧
      (polling.withFetchWord 48 0x100000000000).env = .port (.command 0x100000000000) :: [] ∧
      (polling.withFetchWord 48 0x100000000000).busy = true := ⟨rfl, rfl, rfl, rfl⟩
theorem witness_StepConsumesEvents :
    Settled { polling with env := [.reset] } ∧
      step { polling with env := [.reset] } = .next (resetBlock { polling with env := [] }) :=
  ⟨.inr (by decide), rfl⟩
theorem witness_StepSettles :
    Inv { polling with env := [.answer bad] } ∧ Settled { polling with env := [.answer bad] } ∧
      step { polling with env := [.answer bad] } = .next (run planPoll fuel { polling with env := [.answer bad] }) :=
  ⟨inv_polling _, .inr (by decide), rfl⟩
theorem witness_CommandEndsOrWaits :
    Instr.poll.isCommand = true ∧ Ready sess ∧ exec .poll sess = .next (command .poll planPoll sess) :=
  ⟨rfl, ready_sess [], rfl⟩
theorem witness_QueryDoesNotDisturbCommand :
    let e : List Event := [.port (.query 0x6000), .answer (good (px 5)), .answer (good [])]
    let a : List Event := [.answer (good (px 5)), .answer (good [])]
    let q : State := reply true (stateWord polling) { polling with env := a }
    Inv { polling with env := e } ∧ polling.busy = true ∧ step { polling with env := e } = .next q ∧
      step q = .next (run planPoll fuel q) ∧
      step { polling with env := a } = .next (run planPoll fuel { polling with env := a }) :=
  ⟨inv_polling _, rfl, rfl, rfl, rfl⟩

theorem witness_NoSessionRefusal :
    Instr.poll.isCommand = true ∧ (∀ a hz, Instr.poll ≠ .beginSession a hz) ∧ Ready State.reset ∧
      State.reset.begun = false := ⟨rfl, by simp, ready_reset, rfl⟩
theorem witness_NoMirrorRefusal : Ready unloaded ∧ unloaded.begun = true ∧ unloaded.mirrorsLoaded = false :=
  ⟨⟨rfl, rfl, rfl, rfl⟩, rfl, rfl⟩
/-- The two addresses next to the valid range. -/
theorem witness_BadAddressRejected :
    Ready sess ∧ sess.begun = true ∧ (7#8).toNat < 0x08 ∧ 0x77 < (0x78#8).toNat :=
  ⟨ready_sess [], rfl, by decide, by decide⟩

theorem witness_IdentifyCommand :
    Ready State.reset ∧ State.reset.begun = false ∧
      Ready (lostWith [good [], good [], good snap0, good []]) ∧
      (lostWith [good [], good [], good snap0, good []]).begun = true ∧ identifies (good snap0) ∧
      (sessWith [good [], good [], bad, good []]).env = answers [good [], good [], bad, good []] ++ [.reset] ∧
      ¬ identifies bad ∧ ¬ identifies (good (snap0.take 55)) :=
  ⟨ready_reset, rfl, ⟨rfl, rfl, rfl, rfl⟩, rfl, identifies_snap0, rfl, not_identifies_bad, not_identifies_short⟩
theorem witness_BeginFirstAttempt :
    Ready (sessWith [good [], good [], good snap0, good []]) ∧ 0x08 ≤ (0x08#8).toNat ∧ (0x77#8).toNat ≤ 0x77 ∧
      identifies (good snap0) := ⟨ready_sess _, by decide, by decide, identifies_snap0⟩

/-- `n` attempts whose snapshot read fails. -/
def failedAttempts (n : Nat) : List Attempt := List.replicate n ⟨good [], good [], bad, good [], good []⟩

/-- The session with the answers of `ts` and of one more attempt, its read answered by `r`, ahead. -/
def attempting (ts : List Attempt) (r : Answer) : State :=
  { sess with env := (attemptEvents ts ++ answers [good [], good [], r, good []] ++ []) }

theorem witness_BeginSucceedsAtAttempt :
    (failedAttempts 0).length ≤ 15 ∧ (failedAttempts 15).length ≤ 15 ∧
      (∀ t ∈ failedAttempts 15, ¬ identifies t.read) ∧ identifies (good snap0) ∧
      Ready (attempting (failedAttempts 15) (good snap0)) :=
  ⟨by decide, by decide, fun t h => by rw [List.eq_of_mem_replicate h]; exact not_identifies_bad, identifies_snap0,
    ready_sess _⟩
theorem witness_BeginExhausted :
    (failedAttempts 15).length = 15 ∧ (∀ t ∈ failedAttempts 15, ¬ identifies t.read) ∧
      ¬ identifies (good (snap0.take 55)) ∧
      Ready (attempting (failedAttempts 15) (good (snap0.take 55))) :=
  ⟨by decide, fun t h => by rw [List.eq_of_mem_replicate h]; exact not_identifies_bad, not_identifies_short,
    ready_sess _⟩

/-- The session may poll. -/
theorem pollReady_sess (e : List Event) : PollReady { sess with env := e } := ⟨ready_sess e, rfl, rfl⟩

theorem witness_ClkqReturnsScaledClock :
    Ready State.reset ∧ State.reset.begun = false ∧ Ready unloaded ∧ unloaded.begun = true ∧
      unloaded.mirrorsLoaded = false ∧ PollReady sess ∧ (400000#32).toNat = max (6250 * 2 ^ (sess.cf.refreshRate.toNat % 8)) sess.baseClock.toNat :=
  ⟨ready_reset, rfl, ⟨rfl, rfl, rfl, rfl⟩, rfl, rfl, pollReady_sess [], by decide⟩

/-- The session is ready for a writer, whatever the four answers are. -/
theorem writerReady_sess (g c w e : Answer) (rest : List Event) :
    WriterReady g c w e rest { sess with env := answers [g, c, w, e] ++ rest } := ⟨ready_sess _, rfl, rfl, rfl⟩

theorem witness_WholeBlockWrites :
    WriterReady (good []) (good []) (good []) (good []) [.reset] (sessWith yes4) ∧ (good []).ok = true :=
  ⟨writerReady_sess _ _ _ _ _, rfl⟩
theorem witness_PlainConfigMutators :
    WriterReady (good []) (good []) (good []) (good []) [] { sess with env := answers yes4 ++ [] } ∧
      (good []).ok = true := ⟨writerReady_sess _ _ _ _ _, rfl⟩
/-- The three flag bits of `func_ctrl` = 03 cleared and set. -/
theorem witness_FuncCtrlMutators :
    (∀ j < 8, (0x02#8).getLsbD j = if j = 0 then false else sess.cf.funcCtrl.getLsbD j) ∧
      (∀ j < 8, (0x01#8).getLsbD j = if j = 1 then false else sess.cf.funcCtrl.getLsbD j) ∧
      (∀ j < 8, (0x07#8).getLsbD j = if j = 2 then true else sess.cf.funcCtrl.getLsbD j) ∧
      WriterReady (good []) (good []) (good []) (good []) [.reset] (sessWith yes4) :=
  ⟨by decide, by decide, by decide, writerReady_sess _ _ _ _ _⟩
theorem witness_RateAndNoiseMutators :
    (7#8).toNat < 8 ∧ (15#8).toNat < 16 ∧
      (0x0F#8).toNat = sess.cf.noiseFilter.toNat / 16 * 16 + (15#8).toNat ∧
      WriterReady (good []) (good []) (good []) (good []) [.reset] (sessWith yes4) :=
  ⟨by decide, by decide, by decide, writerReady_sess _ _ _ _ _⟩
theorem witness_AreaMutator :
    (0xFF#8).toNat = 16 * min (15#8).toNat 15 + min (16#8).toNat 15 ∧
      WriterReady (good []) (good []) (good []) (good []) [.reset] (sessWith yes4) :=
  ⟨by decide, writerReady_sess _ _ _ _ _⟩
theorem witness_AddressChange :
    0x08 ≤ (0x08#8).toNat ∧ (0xF7#8).toNat = 255 - (0x08#8).toNat ∧ (0x77#8).toNat ≤ 0x77 ∧
      (0x88#8).toNat = 255 - (0x77#8).toNat ∧
      WriterReady (good []) (good []) (good []) (good []) [.reset] (sessWith yes4) :=
  ⟨by decide, by decide, by decide, by decide, writerReady_sess _ _ _ _ _⟩
theorem witness_AlarmMutators :
    sess.al = (if Which.lo = .lo then sess.al else sess.ah) ∧ sess.ah = (if Which.hi = .lo then sess.al else sess.ah) ∧
      (5#8).toNat = max (4#8).toNat 5 ∧ (255#8).toNat = max (255#8).toNat 5 ∧
      WriterReady (good []) (good []) (good []) (good []) [.reset] (sessWith yes4) :=
  ⟨rfl, rfl, by decide, by decide, writerReady_sess _ _ _ _ _⟩
theorem witness_FailedWriteKeepsUpdate :
    isWriter (.chaddr 0x40) = true ∧ addressChecked (.chaddr 0x40) = true ∧
      WriterReady (good []) (good []) bad (good []) [.reset] (sessWith [good [], good [], bad, good []]) ∧
      bad.ok = false ∧ (good []).ok = true ∧
      exec (.chaddr 0x40) (sessWith yes4) = .next (command (.chaddr 0x40) (planChaddr 0x40) (sessWith yes4)) :=
  ⟨rfl, by decide, writerReady_sess _ _ _ _ _, rfl, rfl, rfl⟩
theorem witness_WriterIdentifiesFirst :
    isWriter (.chaddr 0x77) = true ∧ addressChecked (.chaddr 0x77) = true ∧
      Ready (lostWith [good [], good [], good snap0, good []]) ∧
      (lostWith [good [], good [], good snap0, good []]).begun = true ∧
      (lostWith [good [], good [], good snap0, good []]).ident = false ∧
      (lostWith [good [], good [], good snap0, good []]).env =
        answers [good [], good [], good snap0, good []] ++ [.reset] ∧ identifies (good snap0) :=
  ⟨rfl, by decide, ⟨rfl, rfl, rfl, rfl⟩, rfl, rfl, rfl, identifies_snap0⟩
theorem witness_WriterNeedsIdentification :
    isWriter .wrcfg = true ∧ addressChecked .wrcfg = true ∧ Ready (lostWith [good [], good [], bad, good []]) ∧
      (lostWith [good [], good [], bad, good []]).begun = true ∧
      (lostWith [good [], good [], bad, good []]).ident = false ∧
      (lostWith [good [], good [], bad, good []]).env = answers [good [], good [], bad, good []] ++ [.reset] ∧
      ¬ identifies bad :=
  ⟨rfl, rfl, ⟨rfl, rfl, rfl, rfl⟩, rfl, rfl, rfl, not_identifies_bad⟩

/-- A whole poll answered. -/
theorem pollAnswered_good :
    PollAnswered (good [9, 0]) (good []) (good [1, 1]) (good ov) (good (px 0)) (good (px 1)) (good (px 2)) (good (px 3))
      (good (px 4)) (good (px 5)) (good []) := by
  constructor <;> first | decide | exact ⟨rfl, by decide⟩

/-- The session in manual acknowledgement: bit 2 of `func_ctrl` is set. -/
def manualSess : State := { sess with cf := { sess.cf with funcCtrl := 0x07 } }

/-- The answers of a poll without write-back, manual acknowledgement. -/
def pollManual : List Answer :=
  [good [], good [], good [1, 0], good [1, 1], good ov, good (px 0), good (px 1), good (px 2), good (px 3),
   good (px 4), good (px 5), good [], good []]

/-- With write-back and automatic acknowledgement, and without write-back and manual acknowledgement, whose requests
are those of 44_poll.md R246. -/
theorem witness_PollSucceeds :
    (PollReady { sess with env := answers poll9 ++ [.reset] } ∧
      (400000#32).toNat = max (6250 * 2 ^ (sess.cf.refreshRate.toNat % 8)) sess.baseClock.toNat ∧
      (le16 ov 8).toNat < (le16 ov 12).toNat ∧
      poll9 = pollHeadAnswers (good []) (good []) (good [9, 0]) (good []) (good [1, 1]) ++
        pollBodyAnswers (sess.cf.funcCtrl.getLsbD 2) (good ov) (good (px 0)) (good (px 1)) (good (px 2)) (good (px 3))
          (good (px 4)) (good (px 5)) (good []) ++ [good []]) ∧
    PollReady { manualSess with env := answers pollManual ++ [.reset] } ∧
      (400000#32).toNat = max (6250 * 2 ^ (manualSess.cf.refreshRate.toNat % 8)) manualSess.baseClock.toNat ∧
      PollAnswered (good [1, 0]) (good []) (good [1, 1]) (good ov) (good (px 0)) (good (px 1)) (good (px 2))
        (good (px 3)) (good (px 4)) (good (px 5)) (good []) ∧
      pollManual = pollHeadAnswers (good []) (good []) (good [1, 0]) (good []) (good [1, 1]) ++
        pollBodyAnswers (manualSess.cf.funcCtrl.getLsbD 2) (good ov) (good (px 0)) (good (px 1)) (good (px 2))
          (good (px 3)) (good (px 4)) (good (px 5)) (good []) ++ [good []] ∧
      pollHead 0x32 400000 1 ++ pollBody 0x32 (manualSess.cf.funcCtrl.getLsbD 2) =
        [.clkGet, .clkSet 400000, .wrRd 0x32 0x00 2 false, .wrRd 0x32 0x6E 2 false, .wrRd 0x32 0x70 16 true,
         .rdMore 0x32 128 true, .rdMore 0x32 128 true, .rdMore 0x32 128 true, .rdMore 0x32 128 true,
         .rdMore 0x32 128 true, .rdMore 0x32 128 false, .wr 0x32 0x6E [0]] :=
  ⟨⟨pollReady_sess _, by decide, by decide, by decide⟩, ⟨⟨rfl, rfl, rfl, rfl⟩, rfl, rfl⟩, by decide,
    by constructor <;> first | decide | exact ⟨rfl, by decide⟩, by decide, by decide⟩

/-- The overview with lowest = highest = 0x3000. -/
def ovEqual : List Byte := (ov.set 8 0x00).set 9 0x30

theorem witness_PollInvalidFrame :
    (le16 ovEqual 12).toNat ≤ (le16 ovEqual 8).toNat ∧
      PollAnswered (good [1, 0]) (good []) (good [1, 1]) (good ovEqual) (good (px 0)) (good (px 1)) (good (px 2))
        (good (px 3)) (good (px 4)) (good (px 5)) (good []) ∧
      PollReady (sessWith
        (pollHeadAnswers (good []) (good []) (good [1, 0]) (good []) (good [1, 1]) ++
          pollBodyAnswers (sess.cf.funcCtrl.getLsbD 2) (good ovEqual) (good (px 0)) (good (px 1)) (good (px 2))
            (good (px 3)) (good (px 4)) (good (px 5)) (good []) ++ [good []])) :=
  ⟨by decide, by constructor <;> first | decide | exact ⟨rfl, by decide⟩, pollReady_sess _⟩
theorem witness_PollNotReady :
    brings 2 (good [1, 0]) ∧ (good []).ok = true ∧ brings 2 (good [0xFE, 1]) ∧
      (byteAt (good [0xFE, 1]).data 0).toNat % 2 = 0 ∧
      PollReady (sessWith
        (pollHeadAnswers (good []) (good []) (good [1, 0]) (good []) (good [0xFE, 1]) ++ [good []])) :=
  ⟨⟨rfl, rfl⟩, rfl, ⟨rfl, rfl⟩, by decide, pollReady_sess _⟩
/-- A poll in the manual mode whose acknowledgement fails, of a frame that is not valid either. -/
def unackedPoll : List Answer :=
  pollHeadAnswers (good []) (good []) (good [9, 0]) (good []) (good [1, 0]) ++ [good ovEqual] ++
    List.replicate 6 (good (px 0)) ++ [bad, good []]

/-- The session, and the session in the manual mode, that may poll with the answers of a poll that fails at the status
read, the write-back, the refresh-control read, the overview read, the first and the last chunk, the
acknowledgement. -/
theorem witness_PollFailsAtChunk :
    (∀ as : List Answer, PollReady (sessWith as) ∧ (sessWith as).env = answers as ++ [.reset]) ∧
    (400000#32).toNat = max (6250 * 2 ^ (sess.cf.refreshRate.toNat % 8)) sess.baseClock.toNat ∧
    (¬ brings 2 bad ∧ ¬ brings 2 (good [9]) ∧ ¬ brings 16 bad ∧ ¬ brings 128 bad ∧ bad.ok = false) ∧
    (brings 2 (good [9, 0]) ∧ edgeSet (byteAt (good [9, 0]).data 0) = true ∧ brings 2 (good [1, 0]) ∧
      edgeSet (byteAt (good [1, 0]).data 0) = false ∧ (byteAt (good [1, 0]).data 0).toNat % 2 = 1 ∧
      (good []).ok = true ∧ brings 16 (good ov)) ∧
    (([] : List Answer).length ≤ 5 ∧ (List.replicate 5 (good (px 0))).length ≤ 5 ∧
      (List.replicate 6 (good (px 0))).length = 6 ∧ ∀ n, ∀ p ∈ List.replicate n (good (px 0)), brings 128 p) ∧
    (PollReady { manualSess with env := answers unackedPoll ++ [.reset] } ∧
      (400000#32).toNat = max (6250 * 2 ^ (manualSess.cf.refreshRate.toNat % 8)) manualSess.baseClock.toNat ∧
      manualSess.cf.funcCtrl.getLsbD 2 = true ∧ brings 16 (good ovEqual) ∧
      (le16 ovEqual 12).toNat ≤ (le16 ovEqual 8).toNat) :=
  ⟨fun _ => ⟨pollReady_sess _, rfl⟩, by decide, (by simp only [brings]; decide), (by simp only [brings]; decide),
    ⟨by decide, by decide, by decide, fun _ p h => by rw [List.eq_of_mem_replicate h]; exact ⟨rfl, by decide⟩⟩,
    ⟨⟨rfl, rfl, rfl, rfl⟩, rfl, rfl⟩, by decide, by decide, ⟨rfl, rfl⟩, by decide⟩

/-- A failed acknowledgement: TRANSPORT, not INVALID_FRAME, and nothing published (44_poll.md R240). -/
theorem test_poll_ack_fails :
    (after manualSess 48 0x030000000000 unackedPoll).resCause = .transport ∧
      (after manualSess 48 0x030000000000 unackedPoll).framePresent = false := by decide

/-- A poll that waits for its last chunk and gets it, then the closing answer. -/
def lastChunk : State := { polling with env := answers [good (px 5), good []] }

/-- The same with a failed transfer. -/
def lostChunk : State := { polling with env := answers [bad, good []] }

/-- A step that publishes, and one that publishes nothing and fails. -/
theorem witness_PollLeavesPublishedState_step :
    Inv lastChunk ∧ lastChunk.seq ∈ pollStates ∧ (∀ rest, lastChunk.env ≠ .reset :: rest) ∧
      step lastChunk = .next (run planPoll fuel lastChunk) ∧
      (run planPoll fuel lastChunk).framePresent = true ∧ lastChunk.framePresent = false ∧
    Inv lostChunk ∧
      (∀ rest, lostChunk.env ≠ .reset :: rest) ∧
      step lostChunk = .next (run planPoll fuel lostChunk) ∧
      (run planPoll fuel lostChunk).busy = false ∧
      (run planPoll fuel lostChunk).resOk = false :=
  ⟨inv_polling _, by decide, fun _ h => (by cases h), rfl, by decide, rfl, inv_polling _, fun _ h => (by cases h), rfl,
    by decide, by decide⟩

/-- A poll presented to the session, with these answers ahead. -/
def pollWith (as : List Answer) : State := command .poll planPoll (sessWith as)

/-- The session with those answers, waiting at the end of them. -/
def pollShort (as : List Answer) : State := command .poll planPoll { sess with env := answers as }

/-- A poll that fails at its status read, one that succeeds, one that waits for its first answer, and two that wait
for the answer to the closing request, one of which has published. -/
theorem witness_PollLeavesPublishedState :
    (∀ as : List Answer, Ready (sessWith as) ∧ exec .poll (sessWith as) = .next (pollWith as)) ∧
    (∀ as : List Answer, Ready { sess with env := answers as } ∧
      exec .poll { sess with env := answers as } = .next (pollShort as)) ∧
    ((pollWith [good [], good [], bad, good []]).busy = false ∧
      (pollWith [good [], good [], bad, good []]).resOk = false) ∧
    ((pollWith poll9).busy = false ∧ (pollWith poll9).resOk = true) ∧
    ((pollShort []).busy = true ∧ (pollShort []).seq ≠ .plExit) ∧
    ((pollShort [good [], good [], bad]).busy = true ∧ (pollShort [good [], good [], bad]).seq = .plExit ∧
      (pollShort [good [], good [], bad]).outcome ≠ .none) ∧
    ((pollShort (poll9.take 12)).busy = true ∧ (pollShort (poll9.take 12)).seq = .plExit ∧
      (pollShort (poll9.take 12)).outcome = .none) :=
  ⟨fun _ => ⟨ready_sess _, rfl⟩, fun _ => ⟨ready_sess _, rfl⟩, by decide, by decide, by decide, by decide, by decide⟩

/-- A poll that waits for the answer to `r` in state `q`; its outcome so far is a failed transfer. -/
def pollAt (q : Seq) (r : BusRequest) : State :=
  { sess with busy := true, cur := 0x030000000000, seq := q, pending := some r, savedClock := 400000,
              outcome := .transport, busLog := [r] }

/-- The invariant holds of it at the opening and at the closing of the clock bracket. -/
theorem inv_pollAt {q : Seq} {r : BusRequest} (hq : q = .plClk ∨ q = .plExit)
    (hf : requestFits (pollAt q r) r = true) : Inv (pollAt q r) where
  busyIff := by rcases hq with rfl | rfl <;> simp [pollAt]
  pendingFits := fun r' h => by cases h; exact hf
  pendingLast := fun r' h => by cases h; rfl
  holdingIff := by rcases hq with rfl | rfl <;> simp [pollAt, sess, loadMirrors, State.reset]
  running := fun _ => ⟨.poll, show decodeCommand 0x030000000000#48 = .ok .poll by decide,
    by rcases hq with rfl | rfl <;> simp [pollAt, statesOf, pollStates], rfl⟩
  session := fun _ _ => rfl
  mirrorsForPoll := fun _ => rfl
  address := show 0x08 ≤ sess.busAddr.toNat ∧ sess.busAddr.toNat ≤ 0x77 by decide
  identLoaded := fun _ => rfl
  loaded := fun _ => ⟨rfl, rfl, rfl⟩
  frameOk := fun h => by cases h
  identForWrite := fun _ => rfl
  identExit := fun _ _ => rfl
  staged2 := fun h => by rcases hq with rfl | rfl <;> simp [pollAt] at h
  staged3 := fun h => by rcases hq with rfl | rfl <;> simp [pollAt] at h
  staged4 := fun h => by rcases hq with rfl | rfl <;> simp [pollAt] at h
  stagedChunk := fun h => by rcases hq with rfl | rfl <;> cases h
  staged5 := fun h => by rcases hq with rfl | rfl <;> simp [pollAt] at h
  checked := fun h => by rcases hq with rfl | rfl <;> cases h
  okCause := fun h => by cases h
  failValue := fun _ => rfl
  retryBound := show sess.retry.toNat ≤ 16 by decide
  retryLive := fun a hz h => by
    rw [show decodeCommand (pollAt q r).cur = .ok .poll from
      (show decodeCommand 0x030000000000#48 = .ok .poll by decide)] at h
    cases h

/-- A poll that waits for `r` and then meets `as`. -/
def pollMeets (q : Seq) (r : BusRequest) (as : List Answer) : State := { pollAt q r with env := answers as }

/-- A poll that ends in one `exec`; and polls that wait for the first answer, for the operation clock, for the last
chunk and for the closing request, and are ended by the answers ahead. -/
theorem witness_PollRestoresClock :
    (PollReady { sess with env := answers poll9 } ∧
      exec .poll { sess with env := answers poll9 } = .next (command .poll planPoll { sess with env := answers poll9 }) ∧
      (command .poll planPoll { sess with env := answers poll9 }).busy = false) ∧
    (∀ q r as, (pollMeets q r as).seq = q ∧ (pollMeets q r as).pending = some r ∧
      (pollMeets q r as).env = answers as) ∧
    (∀ as rest, answers as ≠ .reset :: rest) ∧ (.plClk ∈ pollStates ∧ .plExit ∈ pollStates) ∧
    (Inv (pollMeets .plClk .clkGet poll9) ∧
      step (pollMeets .plClk .clkGet poll9) = .next (run planPoll fuel (pollMeets .plClk .clkGet poll9)) ∧
      (run planPoll fuel (pollMeets .plClk .clkGet poll9)).busy = false) ∧
    (Inv (pollMeets .plClk (.clkSet 400000) [good [], bad, good []]) ∧
      step (pollMeets .plClk (.clkSet 400000) [good [], bad, good []]) =
        .next (run planPoll fuel (pollMeets .plClk (.clkSet 400000) [good [], bad, good []])) ∧
      (run planPoll fuel (pollMeets .plClk (.clkSet 400000) [good [], bad, good []])).busy = false) ∧
    (Inv lastChunk ∧ lastChunk.seq ∈ pollStates ∧ step lastChunk = .next (run planPoll fuel lastChunk) ∧
      (run planPoll fuel lastChunk).busy = false ∧ lastChunk.seq ≠ .plClk) ∧
    (Inv (pollMeets .plExit (.clkSet 400000) [good []]) ∧
      step (pollMeets .plExit (.clkSet 400000) [good []]) =
        .next (run planPoll fuel (pollMeets .plExit (.clkSet 400000) [good []])) ∧
      (run planPoll fuel (pollMeets .plExit (.clkSet 400000) [good []])).busy = false) :=
  ⟨⟨pollReady_sess _, rfl, by decide⟩, fun _ _ _ => ⟨rfl, rfl, rfl⟩, fun as _ h => (by cases as <;> cases h),
    by decide,
    ⟨inv_withEnv (inv_pollAt (.inl rfl) rfl) _, rfl, by decide⟩,
    ⟨inv_withEnv (inv_pollAt (.inl rfl) (by decide)) _, rfl, by decide⟩,
    ⟨inv_polling _, by decide, rfl, by decide, by decide⟩,
    ⟨inv_withEnv (inv_pollAt (.inr rfl) (by decide)) _, rfl, by decide⟩⟩

/-- A raw value in 1/128 degree Celsius as a signed word (45_accessors.md R282). -/
theorem signed_word (v : Half) : (BitVec.ofInt 32 ((v.toNat : Int) - 8192)).toInt = (v.toNat : Int) - 8192 := by
  have := v.isLt
  rw [BitVec.toInt_ofInt, Int.bmod_eq_of_le] <;> omega
theorem witness_MirrorQuery : State.reset.mirrorsLoaded = false ∧ sess.mirrorsLoaded = true := ⟨rfl, rfl⟩
theorem witness_PixelQueries :
    sess.framePresent = false ∧ framed.framePresent = true ∧ (383#12).toNat < 384 ∧ 384 ≤ (384#12).toNat ∧
      (BitVec.ofInt 32 ((Config.pixelSentinel.toNat : Int) - 8192)).toInt = (Config.pixelSentinel.toNat : Int) - 8192 :=
  ⟨rfl, rfl, by decide, by decide, signed_word _⟩
theorem witness_SummaryQuery :
    sess.framePresent = false ∧ framed.framePresent = true ∧ (11#4).toNat = 11 ∧ (12#4).toNat = 12 :=
  ⟨rfl, rfl, rfl, rfl⟩
theorem witness_SummaryCelsiusQuery :
    framed.framePresent = true ∧ (3#4).toNat ∉ [0, 1, 2, 5, 8] ∧
      ((8#4).toNat, framed.frame.sum.highest) ∈ [(0, framed.frame.sum.median), (1, framed.frame.sum.average),
        (2, framed.frame.sum.mostDiff), (5, framed.frame.sum.lowest), (8, framed.frame.sum.highest)] ∧
      (4096#32).toInt = (framed.frame.sum.highest.toNat : Int) - 8192 := ⟨rfl, by decide, by decide, by decide⟩
theorem witness_ButtonAndStateQueries :
    State.reset.mirrorsLoaded = false ∧ framed.mirrorsLoaded = true ∧
      (1#32).toNat = framed.st.button.toNat / 2 ^ (3#3).toNat % 2 ∧
      (0x17#32).toNat = framed.ident.toNat + 2 * framed.mirrorsLoaded.toNat + 4 * framed.framePresent.toNat +
        8 * framed.busy.toNat + 16 * framed.begun.toNat := ⟨rfl, rfl, by decide, by decide⟩
theorem witness_QueriesChangeNothing : Instr.qstate.isCommand = false := rfl
/-- Two states that differ in staging, the sequencer's hidden registers and the result only. -/
theorem witness_QueriesSeePublishedStateOnly :
    Instr.qstate.isCommand = false ∧ published polling = published { polling with stg := .empty, chunk := 0, resOk := false } ∧
      polling ≠ { polling with stg := .empty, chunk := 0, resOk := false } ∧
      exec .qstate polling = .next (reply true (stateWord polling) polling) :=
  ⟨rfl, rfl, fun h => absurd (congrArg State.resOk h) (by decide), rfl⟩

theorem witness_OnlyListedAccesses :
    step { polling with env := [.answer (good (px 5))] } =
      .next (run planPoll fuel { polling with env := [.answer (good (px 5))] }) := rfl
/-- A `WRCFG` whose block write has failed and that waits for the answer to its closing request. -/
def writing : State :=
  { sess with busy := true, cur := 0x100000000000, seq := .wrExit, outcome := .transport,
              savedClock := 400000, pending := some (.clkSet 400000), busLog := [.clkSet 400000], env := answers [good []] }

/-- The invariant holds of the waiting writer. -/
theorem inv_writing : Inv writing where
  busyIff := by decide
  pendingFits := fun r h => by cases h; rfl
  pendingLast := fun r h => by cases h; rfl
  holdingIff := by decide
  running := fun _ => ⟨.wrcfg, by decide, by decide, rfl⟩
  session := fun _ _ => rfl
  mirrorsForPoll := fun h => absurd h (by decide)
  address := by decide
  identLoaded := fun _ => rfl
  loaded := fun _ => ⟨rfl, rfl, rfl⟩
  frameOk := fun h => by cases h
  identForWrite := fun _ => rfl
  identExit := fun h => by cases h
  staged2 := fun h => absurd h (by decide)
  staged3 := fun h => absurd h (by decide)
  staged4 := fun h => absurd h (by decide)
  stagedChunk := fun h => by cases h
  staged5 := fun h => absurd h (by decide)
  checked := fun h => by cases h
  okCause := fun h => by cases h
  failValue := fun _ => rfl
  retryBound := by decide
  retryLive := fun a hz h => by
    rw [show decodeCommand writing.cur = .ok .wrcfg by decide] at h
    cases h

/-- A session that is presented `IDENTIFY` and then a failed snapshot read. -/
def identifying : State :=
  { sess with env := .port (.command 0x020000000000) :: answers [good [], good [], bad, good []] }

/-- The invariant holds of the session. -/
theorem inv_sess : Inv sess where
  busyIff := by decide
  pendingFits := fun r h => by cases h
  pendingLast := fun r h => by cases h
  holdingIff := by decide
  running := fun h => absurd rfl h
  session := fun h => absurd rfl h
  mirrorsForPoll := fun _ => rfl
  address := by decide
  identLoaded := fun _ => rfl
  loaded := fun _ => ⟨rfl, rfl, rfl⟩
  frameOk := fun h => by cases h
  identForWrite := fun _ => rfl
  identExit := fun h => by cases h
  staged2 := fun h => absurd h (by decide)
  staged3 := fun h => absurd h (by decide)
  staged4 := fun h => absurd h (by decide)
  stagedChunk := fun h => by cases h
  staged5 := fun h => absurd h (by decide)
  checked := fun h => by cases h
  okCause := fun h => by cases h
  failValue := fun _ => rfl
  retryBound := by decide
  retryLive := fun _ _ _ h => absurd h (by decide)

/-- The tracker moves at each of the three events: a reset, an accepted command, a command resumed by an answer; and
in `exec`. -/
theorem witness_TrackerFallsOnlyByItsEvents :
    (Inv { polling with env := [.reset] } ∧
      step { polling with env := [.reset] } = .next (resetBlock { polling with env := [] }) ∧
      (resetBlock { polling with env := [] }).ident ≠ polling.ident) ∧
    (Inv identifying ∧ step identifying =
        .next (command .identify planIdentify { identifying with env := identifying.env.tail }) ∧
      (command .identify planIdentify { identifying with env := identifying.env.tail }).ident ≠ identifying.ident) ∧
    (Inv writing ∧ step writing = .next (run planWrcfg fuel writing) ∧
      (run planWrcfg fuel writing).ident ≠ writing.ident) ∧
    (Ready (sessWith [good [], good [], bad, good []]) ∧
      exec .identify (sessWith [good [], good [], bad, good []]) =
        .next (command .identify planIdentify (sessWith [good [], good [], bad, good []])) ∧
      (command .identify planIdentify (sessWith [good [], good [], bad, good []])).ident ≠
        (sessWith [good [], good [], bad, good []]).ident) :=
  ⟨⟨inv_polling _, rfl, by decide⟩, ⟨inv_withEnv inv_sess _, rfl, by decide⟩, ⟨inv_writing, rfl, by decide⟩,
    ready_sess _, rfl, by decide⟩
theorem witness_StepKeepsInvariant :
    Inv { polling with env := [.answer (good (px 5)), .answer (good [])] } ∧
      step { polling with env := [.answer (good (px 5)), .answer (good [])] } =
        .next (run planPoll fuel { polling with env := [.answer (good (px 5)), .answer (good [])] }) :=
  ⟨inv_polling _, rfl⟩
theorem witness_NoFatalFailure : Inv polling := inv_polling []

end Sys2Proof.Tests
end

section
/-!
PROOFS. A word that decodes is a row's of its map (30_encoding.md R104, R107), so a word that is no row's is illegal,
and what a step then does (R108, R109).
-/

namespace Sys2Proof

/-- The row of the words of `k` bits with opcode `op` from bit `a` up and all bits of `n` to `a - 1` 0. -/
def formatRow (k a op n : Nat) : OpcodeRow k := ⟨BitVec.ofNat k op <<< a, BitVec.allOnes k <<< n⟩

/-- An opcode field and the unused bits of an argument make a word its format's row's. -/
theorem formatRow_matches {k a m n : Nat} {w : BitVec k} (hk : k = a + m) (hn : n ≤ a)
    (hz : w.extractLsb' 0 a >>> n = 0#a) : (formatRow k a (w.extractLsb' a m).toNat n).matches w = true := by
  have hzero (i : Nat) (hni : n ≤ i) (hia : i < a) : w.getLsbD i = false := by
    have hbit := congrArg (·.getLsbD (i - n)) hz
    simpa [show n + (i - n) = i by omega, hia] using hbit
  simp only [formatRow, OpcodeRow.matches, beq_iff_eq, BitVec.ofNat_toNat]
  ext i hi
  by_cases hia : i < a
  · by_cases hni : n ≤ i
    · simp [hia, ← BitVec.getLsbD_eq_getElem, hzero i hni hia]
    · simp [hia, show i < n by omega]
  · simp [hia, show ¬ i < n by omega, show i - a < m by omega, show a + (i - a) = i by omega,
      BitVec.getLsbD_eq_getElem hi]

/-- A command of a format is decoded only from a word that leaves the format's unused argument bits 0. -/
theorem withArgBits_ok {n : Nat} {w : CommandWord} {i j : Instr} (h : withArgBits n w i = .ok j) :
    argField w >>> n = 0#40 := by
  unfold withArgBits at h
  split at h
  case isTrue hz => exact hz
  case isFalse => cases h

/-- A query of a format is decoded only from a word that leaves the format's unused argument bits 0. -/
theorem withQueryBits_ok {n : Nat} {q : QueryWord} {i j : Instr} (h : withQueryBits n q i = .ok j) :
    q.extractLsb' 0 12 >>> n = 0#12 := by
  unfold withQueryBits at h
  split at h
  case isTrue hz => exact hz
  case isFalse => cases h

/-- An arm of the command decoder accepts only words of its row. -/
theorem commandRow_of_withArgBits {op n : Nat} {w : CommandWord} {i j : Instr} (hop : (opField w).toNat = op)
    (h : withArgBits n w i = .ok j) (hn : n ≤ 40) (hrow : formatRow 48 40 op n ∈ commandRows) :
    ∃ r ∈ commandRows, r.matches w = true := by
  subst hop
  exact ⟨_, hrow, formatRow_matches rfl hn (withArgBits_ok h)⟩

/-- An arm of the query decoder accepts only words of its row. -/
theorem queryRow_of_withQueryBits {qop n : Nat} {q : QueryWord} {i j : Instr} (hop : (qopField q).toNat = qop)
    (h : withQueryBits n q i = .ok j) (hn : n ≤ 12) (hrow : formatRow 16 12 qop n ∈ queryRows) :
    ∃ r ∈ queryRows, r.matches q = true := by
  subst hop
  exact ⟨_, hrow, formatRow_matches rfl hn (withQueryBits_ok h)⟩

/-- A legal command word is a row's of the opcode map R104: one case for each arm of the decoder. -/
theorem commandRow_of_decodeCommand {w : CommandWord} {i : Instr} (h : decodeCommand w = .ok i) :
    ∃ r ∈ commandRows, r.matches w = true := by
  unfold decodeCommand at h
  split at h
  case h_20 => cases h
  all_goals
    rename_i hop
    exact commandRow_of_withArgBits hop h (by decide) (by decide)

/-- A legal query word is a row's of the query map R107: one case for each arm of the decoder. -/
theorem queryRow_of_decodeQuery {q : QueryWord} {i : Instr} (h : decodeQuery q = .ok i) :
    ∃ r ∈ queryRows, r.matches q = true := by
  unfold decodeQuery at h
  split at h
  case h_8 => cases h
  all_goals
    rename_i hop
    exact queryRow_of_withQueryBits hop h (by decide) (by decide)

/-- A command word that is no row's is illegal (R109). -/
theorem decodeCommand_error_of_no_row {w : CommandWord} (hw : ∀ r ∈ commandRows, r.matches w = false) :
    ∃ e, decodeCommand w = .error e := by
  cases h : decodeCommand w with
  | error e => exact ⟨e, rfl⟩
  | ok i =>
    obtain ⟨r, hr, hm⟩ := commandRow_of_decodeCommand h
    simp [hw r hr] at hm

/-- A query word that is no row's is illegal (R108). -/
theorem decodeQuery_error_of_no_row {q : QueryWord} (hq : ∀ r ∈ queryRows, r.matches q = false) :
    ∃ e, decodeQuery q = .error e := by
  cases h : decodeQuery q with
  | error e => exact ⟨e, rfl⟩
  | ok i =>
    obtain ⟨r, hr, hm⟩ := queryRow_of_decodeQuery h
    simp [hq r hr] at hm

namespace Machine

/-- A presented word that does not decode is taken off and answered as an illegal word. -/
theorem step_of_decode_error {s : State} {w : PortWord} {e : DecodeError} {rest : List Event}
    (henv : s.env = .port w :: rest) (hw : decode w = .error e) :
    step s = .next (illegalWord w { s with env := rest }) := by
  simp [step, henv, hw]

/-- An illegal command word while no command runs (R109). -/
theorem illegalWord_command_of_not_busy {s : State} (w : CommandWord) (h : s.busy = false) :
    illegalWord (.command w) s = illegalCommand s := by
  simp [illegalWord, h]

/-- Settles O18: a word of no row does not decode, and `illegalCommand` writes the result registers only. -/
theorem illegalCommandWord : Obligations.IllegalCommandWord := by
  refine ⟨fun s w rest henv hbusy hw => ?_, rfl, rfl, rfl, rfl, rfl, rfl, rfl, rfl, rfl⟩
  obtain ⟨e, he⟩ := decodeCommand_error_of_no_row hw
  have hword := illegalWord_command_of_not_busy (s := { s with env := rest }) w hbusy
  have hstep : step s = .next (illegalCommand { s with env := rest }) := by
    rw [step_of_decode_error henv he, hword]
  exact ⟨_, hstep, rfl, rfl⟩

/-- Settles O19: a word of no row does not decode, and the invalid answer writes the query port only. -/
theorem illegalQueryWord : Obligations.IllegalQueryWord := by
  intro s q rest henv hq
  obtain ⟨e, he⟩ := decodeQuery_error_of_no_row hq
  exact step_of_decode_error henv he

end Machine
end Sys2Proof
end

section
/-!
PROOFS. The Clock Scaler as a maximum of naturals (40_clock_scaler.md R130, R132), a command refused by its first
check, and `CLKQ` (R133).
-/

namespace Sys2Proof.Machine

/-! The Clock Scaler -/

/-- The largest base rate is 800000, so the shift loses no bit (R131). -/
theorem baseRate_toNat (n : BitVec 3) : (baseRate n).toNat = 6250 * 2 ^ n.toNat := by
  have hpow : 2 ^ n.toNat ≤ 2 ^ 7 := Nat.pow_le_pow_right (by decide) (Nat.le_of_lt_succ n.isLt)
  rw [baseRate, BitVec.toNat_shiftLeft, Nat.shiftLeft_eq]
  exact Nat.mod_eq_of_lt (show 6250 * 2 ^ n.toNat < 2 ^ 32 by omega)

/-- Settles O10: the unsigned comparison of the scaler is that of the naturals, and no base rate overflows. -/
theorem clockScaleIsMax : Obligations.ClockScaleIsMax := by
  intro n m
  rw [← baseRate_toNat, clockScale]
  split
  case isTrue h => exact (max_eq_right (BitVec.le_of_lt h)).symm
  case isFalse h => exact (max_eq_left (BitVec.not_lt.mp h)).symm

/-- The scaled clock of the session: the low 3 bits of the rate select the base rate (R132). -/
theorem scaledClock_toNat (s : State) :
    (scaledClock s).toNat = max (6250 * 2 ^ (s.cf.refreshRate.toNat % 8)) s.baseClock.toNat := by
  rw [scaledClock, clockScaleIsMax, BitVec.extractLsb'_toNat, Nat.shiftRight_zero]

/-! The check for session and mirrors -/

/-- Without a session the check answers `NO_SESSION`, whatever the mirrors are (60_exceptions.md R313). -/
theorem checkMirrors_noSession {s : State} (hb : s.begun = false) : checkMirrors s = some .noSession := by
  simp [checkMirrors, hb]

/-- With a session the check asks for the mirrors (60_exceptions.md R306). -/
theorem checkMirrors_noMirror {s : State} (hb : s.begun = true) (hm : s.mirrorsLoaded = false) :
    checkMirrors s = some .noMirror := by simp [checkMirrors, hb, hm]

/-- With both the check passes. -/
theorem checkMirrors_passes {s : State} (hb : s.begun = true) (hm : s.mirrorsLoaded = true) :
    checkMirrors s = none := by simp [checkMirrors, hb, hm]

/-! The ends of a command as end states of a ready block -/

/-- A ready block holds what the two exits write to the registers that only a running command uses. -/
theorem Ready.eq_idle {s : State} (h : Ready s) :
    s = { s with busy := false, seq := .idle, holding := false } := by
  obtain ⟨hbusy, hseq, -, hholding⟩ := h
  cases s
  subst hbusy hseq hholding
  rfl

/-- The failure exit of a command that has written nothing but its acceptance (60_exceptions.md R310). -/
theorem endFail_accepted {i : Instr} {c : Cause} {s : State} (h : Ready s) :
    endFail c { s with cur := encodeCommand i, busy := true } = withFail i c s := by
  rw [h.eq_idle]
  rfl

/-- The success exit of a command that has written nothing but its acceptance (60_exceptions.md R311). -/
theorem endOk_accepted {i : Instr} {v : BitVec 32} {q : Seq} {s : State} (h : Ready s) :
    endOk v { s with cur := encodeCommand i, busy := true, seq := q } = withOk i v s := by
  rw [h.eq_idle]
  rfl

/-- A command refused by its first check writes the result registers, `cur` and staging only (60_exceptions.md R306,
R310). -/
theorem exec_refused {i : Instr} {p : Plan} {c : Cause} {s : State} (h : Ready s) (hp : planOf i = some p)
    (hc : p.check s = some c) : exec i s = .next (withFail i c s) := by
  rw [exec_command_of_plan s hp, command_refused h hc, endFail_accepted h]

/-! `CLKQ` -/

/-- The one state of `CLKQ` issues no request: it ends the command with the scaled clock (R133). -/
theorem run_clkq {p : Plan} {s : State} (n : Nat) (hq : s.seq = .cq) (hp : s.pending = none) :
    run p (n + 1) s = endOk (scaledClock s) s := by
  have hadv : advance p s = endOk (scaledClock s) s := by simp only [advance, hq]
  rw [run_advance n (by simp [hq]) hp, hadv]
  exact run_stop n (seqStep_idle rfl)

/-- With a session and mirrors `CLKQ` answers the scaled clock and keeps everything else (R133). -/
theorem exec_clkq_ok {s : State} (h : Ready s) (hb : s.begun = true) (hm : s.mirrorsLoaded = true) :
    exec .clkq s = .next (withOk .clkq (scaledClock s) s) := by
  have hrun : command .clkq planClkq s = withOk .clkq (scaledClock s) s := by
    rw [command_runs h.busy (checkMirrors_passes hb hm), fuel, run_clkq 511 rfl (by exact h.pending)]
    exact endOk_accepted h
  rw [exec_command_of_plan s rfl, hrun]

/-- Settles O32: the two refusals are those of the check, and the value is the scaled clock as a natural. -/
theorem clkqReturnsScaledClock : Obligations.ClkqReturnsScaledClock := by
  refine ⟨by decide, fun s v h => ⟨fun hb => ?_, fun hb hm => ?_, fun hb hm hv => ?_⟩⟩
  · exact exec_refused h rfl (checkMirrors_noSession hb)
  · exact exec_refused h rfl (checkMirrors_noMirror hb hm)
  · have hclock : v = scaledClock s := BitVec.eq_of_toNat_eq (hv.trans (scaledClock_toNat s).symm)
    rw [hclock, exec_clkq_ok h hb hm]

end Sys2Proof.Machine
end

section
/-!
PROOFS. The monitored-area byte as two clamped nibbles (41_codec.md R155).
-/

namespace Sys2Proof.Machine

/-- The clamp of an area operand is the minimum of the naturals (R155). -/
theorem clampArea_toNat (v : Byte) : (clampArea v).toNat = min v.toNat 15 := by
  rw [clampArea]
  split
  case isTrue h => exact (min_eq_left (BitVec.le_def.mp h)).symm
  case isFalse h => exact (min_eq_right (BitVec.le_of_lt (BitVec.not_le.mp h))).symm

/-- A clamped operand fits a nibble, so the shift loses no bit and the two nibbles do not overlap (R155). -/
theorem packArea_toNat (w h : Byte) : (packArea w h).toNat = 16 * min h.toNat 15 + min w.toNat 15 := by
  have hheight : min h.toNat 15 * 2 ^ 4 < 2 ^ 8 := by omega
  have hwidth : min w.toNat 15 < 2 ^ 4 := by omega
  calc (packArea w h).toNat
      = (min h.toNat 15 <<< 4) % 2 ^ 8 ||| min w.toNat 15 := by
        rw [packArea, BitVec.toNat_or, BitVec.toNat_shiftLeft, clampArea_toNat, clampArea_toNat]
    _ = min h.toNat 15 <<< 4 ||| min w.toNat 15 := by
        rw [Nat.mod_eq_of_lt (by rwa [Nat.shiftLeft_eq])]
    _ = 16 * min h.toNat 15 + min w.toNat 15 := by
        rw [← Nat.shiftLeft_add_eq_or_of_lt hwidth, Nat.shiftLeft_eq, Nat.mul_comm]

/-- The width is the byte's low nibble (R155). -/
theorem areaWidth_toNat (m : Byte) : (areaWidth m).toNat = m.toNat % 16 := by
  rw [areaWidth, BitVec.extractLsb'_toNat, Nat.shiftRight_zero]

/-- The height is the byte's high nibble (R155). -/
theorem areaHeight_toNat (m : Byte) : (areaHeight m).toNat = m.toNat / 16 := by
  rw [areaHeight, BitVec.extractLsb'_toNat, Nat.shiftRight_eq_div_pow]
  exact Nat.mod_eq_of_lt (Nat.div_lt_of_lt_mul m.isLt)

/-- Settles O11: each readback is the quotient or the remainder by 16 of the packed byte. -/
theorem packAreaNibbles : Obligations.PackAreaNibbles := by
  intro w h
  refine ⟨packArea_toNat w h, ?_, ?_⟩
  · rw [areaWidth_toNat, packArea_toNat]
    omega
  · rw [areaHeight_toNat, packArea_toNat]
    omega

end Sys2Proof.Machine
end

section
/-!
PROOFS. A whole identification by its answer to the snapshot read, whoever called it (42_identify.md R171, R172), and
the command `IDENTIFY` (R170).
-/

namespace Sys2Proof.Machine

/-! The check of the snapshot -/

/-- An accepted snapshot loads the mirrors and the tracker (R172). -/
theorem identCheck_of_identifies {s : State} {r : Answer} (hsnap : s.snap = received 56 r) (hr : identifies r) :
    identCheck s = { withSnapshot r.data s with seq := .idExit } := by
  obtain ⟨hok, hlen, hid0, hid1⟩ := hr
  have hb : s.snap = some r.data := hsnap.trans (received_eq_some.mpr ⟨hok, hlen, rfl⟩)
  simp only [identCheck, hb, hid0, hid1, and_self, if_true]
  rfl

/-- A refused snapshot drops the tracker and keeps the mirrors: `TRANSPORT` when the read brought nothing,
`IDENT_MISMATCH` when it brought other identification bytes (R172). -/
theorem identCheck_of_not_identifies {s : State} {r : Answer} (hq : s.seq = .idCheck)
    (hsnap : s.snap = received 56 r) (hr : ¬ identifies r) :
    identCheck s = { s with ident := false, outcome := attemptCause r, seq := .idExit } := by
  have hfail (c : Cause) : raiseFail c { s with ident := false } =
      { s with ident := false, outcome := c, seq := .idExit } :=
    raiseFail_open (by simp only [hq, openBracketExit])
  by_cases hread : r.ok = true ∧ r.data.length = 56
  · have hb : s.snap = some r.data := hsnap.trans (received_eq_some.mpr ⟨hread.1, hread.2, rfl⟩)
    have hbytes : ¬ (byteAt r.data 4 = Config.id0Const ∧ byteAt r.data 5 = Config.id1Const) :=
      fun hid => hr ⟨hread.1, hread.2, hid⟩
    have hcause : attemptCause r = .identMismatch := if_pos hread
    have hcheck : identCheck s = raiseFail .identMismatch { s with ident := false } := by
      simp only [identCheck, hb, if_neg hbytes]
    rw [hcheck, hfail, hcause]
  · have hb : s.snap = none := hsnap.trans (received_eq_none.mpr (by simpa [imp_iff_not_or] using hread))
    have hcause : attemptCause r = .transport := if_neg hread
    have hcheck : identCheck s = raiseFail .transport { s with ident := false } := by
      simp only [identCheck, hb]
    rw [hcheck, hfail, hcause]

/-- A failed attempt has a cause. -/
theorem attemptCause_ne_none (r : Answer) : attemptCause r ≠ .none := by
  unfold attemptCause
  split <;> decide

/-! A whole identification, up to its caller -/

/-- An identification whose snapshot is accepted hands the loaded mirrors to its caller (R171, R172). -/
theorem run_identification_ok {p : Plan} {s : State} {g c r e : Answer} {rest : List Event} (n : Nat)
    (hq : s.seq = .idClk) (hp : s.pending = none) (hh : s.holding = false)
    (he : s.env = answers [g, c, r, e] ++ rest) (hr : identifies r) :
    run p (n + 8) s =
      run p n (identReturned p { withSnapshot r.data (identBracket g r rest s) with seq := .idExit }) := by
  rw [run_identification n hq hp hh he, identCheck_of_identifies rfl hr, ← hp]
  rfl

/-- An identification whose snapshot is refused hands the cause to its caller, the tracker dropped (R171, R172). -/
theorem run_identification_fail {p : Plan} {s : State} {g c r e : Answer} {rest : List Event} (n : Nat)
    (hq : s.seq = .idClk) (hp : s.pending = none) (hh : s.holding = false)
    (he : s.env = answers [g, c, r, e] ++ rest) (hr : ¬ identifies r) :
    run p (n + 8) s =
      run p n (identReturned p
        { identBracket g r rest s with ident := false, outcome := attemptCause r, seq := .idExit }) := by
  rw [run_identification n hq hp hh he, identCheck_of_not_identifies rfl rfl hr, ← hp]
  rfl

/-! `IDENTIFY` -/

/-- Without a session the check answers `NO_SESSION` (60_exceptions.md R306). -/
theorem checkSession_noSession {s : State} (hb : s.begun = false) : checkSession s = some .noSession := by
  simp [checkSession, hb]

/-- With a session the check passes. -/
theorem checkSession_passes {s : State} (hb : s.begun = true) : checkSession s = none := by simp [checkSession, hb]

/-- As a command the identification ends with the result its bracket held (R170). -/
theorem identReturned_identify (s : State) : identReturned planIdentify s = endWith 0 s := rfl

/-- With a session `IDENTIFY` runs from `ID_CLK`; a whole identification takes 8 of its sequencer steps (R170). -/
theorem exec_identify_run {s : State} (h : Ready s) (hb : s.begun = true) :
    exec .identify s =
      .next (run planIdentify (504 + 8) { s with cur := encodeCommand .identify, busy := true, seq := .idClk }) := by
  rw [exec_command_of_plan s rfl, command_runs h.busy (checkSession_passes hb)]
  rfl

/-- `IDENTIFY` with an accepted snapshot ends with success (R170, R311). -/
theorem exec_identify_ok {s : State} {g c r e : Answer} {rest : List Event} (h : Ready s) (hb : s.begun = true)
    (he : s.env = answers [g, c, r, e] ++ rest) (hr : identifies r) :
    exec .identify s = .next (withOk .identify 0 (withSnapshot r.data (identBracket g r rest s))) := by
  have hready : Ready (withSnapshot r.data (identBracket g r rest s)) :=
    ⟨h.busy, h.seq, h.pending, h.holding⟩
  rw [exec_identify_run h hb,
    run_identification_ok 504 rfl (by exact h.pending) (by exact h.holding) (by exact he) hr,
    identReturned_identify, endWith_ok rfl, run_stop 504 (seqStep_idle rfl),
    ← endOk_accepted (q := .idExit) hready]
  rfl

/-- `IDENTIFY` with a refused snapshot ends with the cause of the attempt (R170, R310). -/
theorem exec_identify_fail {s : State} {g c r e : Answer} {rest : List Event} (h : Ready s) (hb : s.begun = true)
    (he : s.env = answers [g, c, r, e] ++ rest) (hr : ¬ identifies r) :
    exec .identify s = .next (withFail .identify (attemptCause r)
      { identBracket g r rest s with ident := false, outcome := attemptCause r }) := by
  have hready : Ready { identBracket g r rest s with ident := false, outcome := attemptCause r } :=
    ⟨h.busy, h.seq, h.pending, h.holding⟩
  rw [exec_identify_run h hb,
    run_identification_fail 504 rfl (by exact h.pending) (by exact h.holding) (by exact he) hr,
    identReturned_identify, endWith_fail (by exact attemptCause_ne_none r), run_stop 504 (seqStep_idle rfl),
    ← endFail_accepted hready]
  rfl

/-- Settles O28: the refusal is that of the check, and the answer to the snapshot read decides the other two ends. -/
theorem identifyCommand : Obligations.IdentifyCommand :=
  ⟨by decide, fun _ _ _ _ _ _ h => ⟨fun hb => exec_refused h rfl (checkSession_noSession hb),
    exec_identify_ok h, exec_identify_fail h⟩⟩

end Sys2Proof.Machine
end

section
/-!
PROOFS. The word of a command whose argument is one field or several (30_encoding.md R101, R103).
-/

namespace Sys2Proof

/-- A field that fits the argument keeps all its bits in the word (R103). -/
theorem setWidth_argAt {k : Nat} (n : Nat) (v : BitVec k) (h : n + k ≤ 40) :
    (argAt n v).setWidth 48 = v.setWidth 48 <<< n := by
  ext i hi
  by_cases hin : i < n
  · simp [argAt, hin]
  · by_cases hik : i - n < k
    · simp [argAt, hin, show i < 40 by omega]
    · simp [argAt, hin, BitVec.getLsbD_of_ge v (i - n) (by omega)]

/-- Adding a field to an argument adds it to the word. -/
theorem commandWord_or_argAt {k : Nat} (op : Byte) (a : BitVec 40) (n : Nat) (v : BitVec k) (h : n + k ≤ 40) :
    commandWord op (a ||| argAt n v) = commandWord op a ||| v.setWidth 48 <<< n := by
  rw [commandWord, commandWord, BitVec.setWidth_or, BitVec.or_assoc, setWidth_argAt n v h]

/-- The word of an argument of one field. -/
theorem commandWord_argAt {k : Nat} (op : Byte) (n : Nat) (v : BitVec k) (h : n + k ≤ 40) :
    commandWord op (argAt n v) = commandWord op 0#40 ||| v.setWidth 48 <<< n := by
  rw [← commandWord_or_argAt op 0#40 n v h, BitVec.zero_or]

/-- A field of fewer bits than its operand loses nothing of a number that fits it (decision D38). -/
theorem setWidth_setWidth_of_lt {k n m : Nat} {v : BitVec k} (h : v.toNat < 2 ^ n) :
    (v.setWidth n).setWidth m = v.setWidth m := by
  apply BitVec.eq_of_toNat_eq
  rw [BitVec.toNat_setWidth, BitVec.toNat_setWidth, BitVec.toNat_setWidth, Nat.mod_eq_of_lt h]

end Sys2Proof
end

section
/-!
PROOFS. A Config Writer command while Identified, whatever its update, its block and its last lines: the write
acknowledged, and the write failed (43_config_writer.md R192, R194, R196).
-/

namespace Sys2Proof.Machine

/-! The plan of a Config Writer command -/

/-- The state with the command's update made, where it has one (43_config_writer.md R196). -/
def mutated (p : Plan) (s : State) : State := p.update.getD id s

/-- What the Config Writer's plans share: they begin at WR_ENSURE, their update changes mirrors by what those mirrors
hold, their last lines change `bus_addr` at most (43_config_writer.md R190, R196, R205). -/
structure IsWriterPlan (p : Plan) : Prop where
  first : p.first = .wrEnsure
  update : ∃ (fc : ConfigRegs → ConfigRegs) (fl fh : Alarm → Alarm), ∀ s,
    mutated p s = { s with cf := fc s.cf, al := fl s.al, ah := fh s.ah }
  commit : ∃ fa : BusAddr → BusAddr, ∀ s, p.commit s = { s with busAddr := fa s.busAddr }

/-- A whole-block write changes no mirror (43_config_writer.md R190). -/
theorem isWriterPlan_writerPlan (b : Block) : IsWriterPlan (writerPlan b) :=
  ⟨rfl, ⟨id, id, id, fun _ => rfl⟩, ⟨id, fun _ => rfl⟩⟩

/-- A mutator of the Config block changes that mirror (43_config_writer.md R196). -/
theorem isWriterPlan_configMutator (f : ConfigRegs → ConfigRegs) : IsWriterPlan (configMutator f) :=
  ⟨rfl, ⟨f, id, id, fun _ => rfl⟩, ⟨id, fun _ => rfl⟩⟩

/-- A mutator of an Alarm block changes the selected mirror (43_config_writer.md R196). -/
theorem isWriterPlan_alarmMutator (which : Which) (f : Alarm → Alarm) : IsWriterPlan (alarmMutator which f) := by
  cases which
  case lo => exact ⟨rfl, ⟨id, f, id, fun _ => rfl⟩, ⟨id, fun _ => rfl⟩⟩
  case hi => exact ⟨rfl, ⟨id, id, f, fun _ => rfl⟩, ⟨id, fun _ => rfl⟩⟩

/-- The address change is the one command with last lines of its own (43_config_writer.md R205). -/
theorem isWriterPlan_planChaddr (v : Byte) : IsWriterPlan (planChaddr v) :=
  ⟨rfl, ⟨fun c => { c with addr := v, addrInv := addrChecksum v }, id, id, fun _ => rfl⟩,
    ⟨fun _ => addrLow v, fun _ => rfl⟩⟩

/-- In a session the address change passes its checks with a valid address (60_exceptions.md R303). -/
theorem planChaddr_check_passes {v : Byte} {s : State} (hb : s.begun = true) (hv : addrValid v = true) :
    (planChaddr v).check s = none := by simp [planChaddr, hb, hv]

/-- Every Config Writer command has such a plan, whose checks pass in a session once its address is checked. -/
theorem exists_writerPlan {i : Instr} (hw : isWriter i = true) (hv : addressChecked i = true) :
    ∃ p, planOf i = some p ∧ IsWriterPlan p ∧ ∀ s, s.begun = true → p.check s = none := by
  have hcommand : i.isCommand = true := by
    cases i <;> first | rfl | cases hw
  obtain ⟨p, hp, -⟩ := exec_command State.reset hcommand
  refine ⟨p, hp, ?_⟩
  rcases planOf_cases hp with ⟨_, _, rfl, -⟩ | ⟨rfl, -⟩ | ⟨rfl, -⟩ | ⟨rfl, -⟩ | ⟨b, rfl⟩ | ⟨f, rfl⟩ |
    ⟨which, f, rfl⟩ | ⟨v, rfl, rfl⟩
  case inl | inr.inl | inr.inr.inl | inr.inr.inr.inl => cases hw
  · exact ⟨isWriterPlan_writerPlan b, fun _ => checkSession_passes⟩
  · exact ⟨isWriterPlan_configMutator f, fun _ => checkSession_passes⟩
  · exact ⟨isWriterPlan_alarmMutator which f, fun _ => checkSession_passes⟩
  · exact ⟨isWriterPlan_planChaddr v, fun _ hb => planChaddr_check_passes hb hv⟩

/-- Between two commands of an identified session the block holds what a successful end writes to these registers. -/
theorem WriterReady.eq_identified_idle {g c w e : Answer} {rest : List Event} {s : State}
    (h : WriterReady g c w e rest s) : s = { s with busy := false, seq := .idle, ident := true } := by
  obtain ⟨⟨hbusy, hseq, -, -⟩, -, hident, -⟩ := h
  cases s
  subst hbusy hseq hident
  rfl

/-! A run from WR_ENSURE to the end -/

/-- Identified, WR_ENSURE goes on to WR_CLK, past WR_MUTATE for a mutator (60_exceptions.md R322 (a)); a whole-block
write has a step of fuel left over. -/
theorem run_wrEnsure {p : Plan} {s : State} (n : Nat) (hw : IsWriterPlan p) (hq : s.seq = .wrEnsure)
    (hp : s.pending = none) (hi : s.ident = true) :
    ∃ k, run p (n + 2) s = run p (n + k) { mutated p s with seq := .wrClk } := by
  have hensure : run p (n + 2) s = run p (n + 1) { s with seq := afterEnsure p } := by
    rw [run_advance (n + 1) (by simp [hq]) hp]
    simp [advance, hq, hi]
  rw [hensure]
  cases hu : p.update with
  | none => exact ⟨1, by simp [afterEnsure, mutated, hu]⟩
  | some f =>
    obtain ⟨fc, fl, fh, hf⟩ := hw.update
    have hmutate : run p (n + 1) { s with seq := .wrMutate } =
        run p n { mutated p { s with seq := .wrMutate } with seq := .wrClk } := run_advance n (by simp) hp
    have hkeeps : { mutated p { s with seq := .wrMutate } with seq := .wrClk } =
        { mutated p s with seq := .wrClk } := by rw [hf, hf]
    exact ⟨0, by rw [show afterEnsure p = .wrMutate by simp [afterEnsure, hu], hmutate, hkeeps, Nat.add_zero]⟩

/-- The end of a block write is at IDLE. -/
theorem writeFinished_seq (commit : State → State) (s : State) : (writeFinished commit s).seq = .idle := by
  unfold writeFinished
  split <;> rfl

/-- The state after the bracket of the block write: the update made, the block sent (43_config_writer.md R192). -/
def blockTried (p : Plan) (g : Answer) (rest : List Event) (s : State) : State :=
  bracketed s.baseClock (blockRequest p.block (mutated p s)) g rest (mutated p s)

/-- A Config Writer command while Identified runs to the end of its block write. -/
theorem exec_writer {i : Instr} {p : Plan} {s : State} {g c w e : Answer} {rest : List Event}
    (hp : planOf i = some p) (hw : IsWriterPlan p) (hc : p.check s = none) (h : WriterReady g c w e rest s) :
    exec i s = .next (writeFinished p.commit { blockTried p g rest s with
      cur := encodeCommand i, busy := true, seq := .wrExit, outcome := if w.ok then .none else .transport }) := by
  obtain ⟨⟨hbusy, -, hpending, hholding⟩, -, hident, hevents⟩ := h
  obtain ⟨fc, fl, fh, hf⟩ := hw.update
  obtain ⟨k, hensure⟩ := run_wrEnsure (s := { s with cur := encodeCommand i, busy := true, seq := .wrEnsure }) 510 hw
    rfl hpending hident
  have hwrite := run_blockWrite (p := p)
    (s := { mutated p { s with cur := encodeCommand i, busy := true, seq := .wrEnsure } with seq := .wrClk })
    (503 + k) rfl (by rw [hf]; exact hpending) (by rw [hf]; exact hevents)
  rw [run_stop _ (seqStep_idle (writeFinished_seq _ _)), hf] at hwrite
  rw [exec_command_of_plan s hp, command_runs hbusy hc, hw.first, fuel, hensure, show 510 + k = 503 + k + 7 by omega,
    hf, hwrite, blockTried, hf]
  simp only [bracketed, hpending, hholding]
  rfl

/-- The write acknowledged: the tracker stays Identified, the command's last lines run, it ends with success
(43_config_writer.md R192, R205). -/
theorem exec_writer_acked {i : Instr} {p : Plan} {s : State} {g c w e : Answer} {rest : List Event}
    (hp : planOf i = some p) (hw : IsWriterPlan p) (hc : p.check s = none) (h : WriterReady g c w e rest s)
    (hok : w.ok = true) :
    exec i s = .next (withOk i 0 (p.commit { blockTried p g rest s with outcome := .none })) := by
  obtain ⟨fc, fl, fh, hf⟩ := hw.update
  obtain ⟨fa, hcommit⟩ := hw.commit
  have hexec := exec_writer hp hw hc h
  rw [if_pos hok, writeFinished, if_pos rfl, hcommit, blockTried, hf] at hexec
  rw [hexec, hcommit, blockTried, hf, h.eq_identified_idle]
  rfl

/-- The write failed: the tracker drops, the command fails, the mirrors keep the update (43_config_writer.md R192,
R194). -/
theorem exec_writer_failed {i : Instr} {p : Plan} {s : State} {g c w e : Answer} {rest : List Event}
    (hp : planOf i = some p) (hw : IsWriterPlan p) (hc : p.check s = none) (h : WriterReady g c w e rest s)
    (hfail : w.ok = false) :
    exec i s = .next (withFail i .transport { blockTried p g rest s with ident := false, outcome := .transport }) := by
  obtain ⟨fc, fl, fh, hf⟩ := hw.update
  have hexec := exec_writer hp hw hc h
  rw [if_neg (by simp [hfail]), writeFinished, if_neg nofun, blockTried, hf] at hexec
  rw [hexec, blockTried, hf, h.ready.eq_idle]
  rfl

/-- Settles O40: both ends are those of `blockTried`, which does not depend on the answer to the write; the last lines
of an acknowledged write touch `bus_addr` only. -/
theorem failedWriteKeepsUpdate : Obligations.FailedWriteKeepsUpdate := by
  intro i s t g c w w' e rest hwriter hchecked h hfail hok ht
  obtain ⟨p, hp, hw, hc⟩ := exists_writerPlan hwriter hchecked
  obtain ⟨fc, fl, fh, hf⟩ := hw.update
  obtain ⟨fa, hcommit⟩ := hw.commit
  have hother : WriterReady g c w' e rest { s with env := answers [g, c, w', e] ++ rest } :=
    ⟨⟨h.ready.busy, h.ready.seq, h.ready.pending, h.ready.holding⟩, h.begun, h.ident, rfl⟩
  have hacked := exec_writer_acked hp hw (hc _ (by exact h.begun)) hother hok
  obtain rfl := Host.Outcome.next.inj (ht.symm.trans hacked)
  rw [exec_writer_failed hp hw (hc s h.begun) h hfail, hcommit, blockTried, blockTried, hf, hf]
  rfl

end Sys2Proof.Machine
end

section
/-!
PROOFS. The mutators of the Config block and of the Alarm blocks: their words, and their whole effect when the write is
acknowledged (43_config_writer.md R196 to R209).
-/

namespace Sys2Proof.Machine

/-! The two mutator templates -/

/-- A mutator of the Config block sends the whole updated mirror (43_config_writer.md R196). -/
theorem exec_configMutator {i : Instr} {f : ConfigRegs → ConfigRegs} {s : State} {g c w e : Answer}
    {rest : List Event} (hp : planOf i = some (configMutator f)) (h : WriterReady g c w e rest s) (hok : w.ok = true)
    {c' : ConfigRegs} (hc : f s.cf = c') : exec i s = .next (configSent i c' g rest s) := by
  subst hc
  exact exec_writer_acked hp (isWriterPlan_configMutator f) (checkSession_passes h.begun) h hok

/-- A mutator of an Alarm block sends the whole updated mirror and leaves the other alarm
(43_config_writer.md R196). -/
theorem exec_alarmMutator {i : Instr} {which : Which} {f : Alarm → Alarm} {s : State} {g c w e : Answer}
    {rest : List Event} (hp : planOf i = some (alarmMutator which f)) (h : WriterReady g c w e rest s)
    (hok : w.ok = true) {a' : Alarm} (ha : f (alarmOf which s) = a') :
    exec i s = .next (alarmSent i which a' g rest s) := by
  subst ha
  rw [exec_writer_acked hp (isWriterPlan_alarmMutator which f) (checkSession_passes h.begun) h hok]
  cases which <;> rfl

/-! The field updates -/

/-- `putBit` sets its own bit and keeps the others (43_config_writer.md R197 to R199). -/
theorem getLsbD_putBit (b : Byte) (v : Bool) {k j : Nat} (hj : j < 8) :
    (putBit b k v).getLsbD j = if j = k then v else b.getLsbD j := by
  have hmask : (1#8 <<< k).getLsbD j = decide (j = k) := by
    rw [BitVec.getLsbD_shiftLeft, BitVec.getLsbD_one]
    grind
  cases v
  case false =>
    rw [putBit, if_neg Bool.false_ne_true, BitVec.getLsbD_and, BitVec.getLsbD_not, hmask]
    split <;> simp [*]
  case true =>
    rw [putBit, if_pos rfl, BitVec.getLsbD_or, hmask]
    split <;> simp [*]

/-- A byte with the bits of `putBit` is its value. -/
theorem eq_putBit {b fc : Byte} {v : Bool} {k : Nat}
    (h : ∀ j < 8, fc.getLsbD j = if j = k then v else b.getLsbD j) : fc = putBit b k v :=
  BitVec.eq_of_getLsbD_eq fun j hj => (h j hj).trans (getLsbD_putBit b v hj).symm

/-- A 3-bit rate is stored as it is (43_config_writer.md R200). -/
theorem rateOperand_of_lt {n : Byte} (h : n.toNat < 8) : rateOperand n = n := by
  apply BitVec.eq_of_toNat_eq
  rw [rateOperand, BitVec.toNat_setWidth, BitVec.extractLsb'_toNat]
  simp only [Nat.shiftRight_zero]
  omega

/-- A 4-bit noise number replaces the low nibble (43_config_writer.md R201). -/
theorem noiseOperand_toNat {old n : Byte} (h : n.toNat < 16) :
    (noiseOperand old n).toNat = old.toNat / 16 * 16 + n.toNat := by
  have hhigh : old.toNat / 16 < 16 := Nat.div_lt_of_lt_mul old.isLt
  have hold : ((old.extractLsb' 4 4).setWidth 8).toNat = old.toNat / 16 := by
    rw [BitVec.toNat_setWidth, BitVec.extractLsb'_toNat, Nat.shiftRight_eq_div_pow]
    omega
  have hnew : ((n.extractLsb' 0 4).setWidth 8).toNat = n.toNat := by
    rw [BitVec.toNat_setWidth, BitVec.extractLsb'_toNat, Nat.shiftRight_zero]
    omega
  calc (noiseOperand old n).toNat
      = (old.toNat / 16) <<< 4 % 2 ^ 8 ||| n.toNat := by
        rw [noiseOperand, BitVec.toNat_or, BitVec.toNat_shiftLeft, hold, hnew]
    _ = (old.toNat / 16) <<< 4 ||| n.toNat := by
        rw [Nat.mod_eq_of_lt (by rw [Nat.shiftLeft_eq]; omega)]
    _ = old.toNat / 16 * 16 + n.toNat := by
        rw [← Nat.shiftLeft_add_eq_or_of_lt h, Nat.shiftLeft_eq]

/-- The clamp of an interval is the maximum of the naturals (43_config_writer.md R208). -/
theorem clampInterval_toNat (v : Byte) : (clampInterval v).toNat = max v.toNat 5 := by
  rw [clampInterval]
  split
  case isTrue h => exact (max_eq_right (BitVec.le_of_lt h)).symm
  case isFalse h => exact (max_eq_left (BitVec.not_lt.mp h)).symm

/-! The obligations -/

/-- Settles O34: each command is a Config mutator whose byte is determined bit by bit. -/
theorem funcCtrlMutators : Obligations.FuncCtrlMutators := by
  constructor
  · intro v
    refine ⟨?_, ?_, ?_⟩ <;>
    · simp (disch := omega) only [encodeCommand, commandWord_argAt, BitVec.shiftLeft_zero]
      rfl
  · intro s v fc g c w e rest h hok
    refine ⟨fun hbits => ?_, fun hbits => ?_, fun hbits => ?_⟩ <;>
    · rw [eq_putBit hbits]
      exact exec_configMutator rfl h hok rfl

/-- Settles O35: numbers that fit their fields are carried whole, by the word and by the update. -/
theorem rateAndNoiseMutators : Obligations.RateAndNoiseMutators := by
  refine ⟨fun n hn => ?_, fun n hn => ?_, fun s n nf g c w e rest h hok => ⟨fun hn => ?_, fun hn hnf => ?_⟩⟩
  · rw [← setWidth_setWidth_of_lt (n := 3) hn]
    simp (disch := omega) only [encodeCommand, commandWord_argAt, BitVec.shiftLeft_zero]
    rfl
  · rw [← setWidth_setWidth_of_lt (n := 4) hn]
    simp (disch := omega) only [encodeCommand, commandWord_argAt, BitVec.shiftLeft_zero]
    rfl
  · exact exec_configMutator rfl h hok (by rw [rateOperand_of_lt hn])
  · rw [BitVec.eq_of_toNat_eq (hnf.trans (noiseOperand_toNat hn).symm)]
    exact exec_configMutator rfl h hok rfl

/-- Settles O36: the packed byte is the one of `packArea_toNat`, for all operands. -/
theorem areaMutator : Obligations.AreaMutator := by
  refine ⟨fun w h => ?_, fun s x y m g c w e rest h hok hm => ?_⟩
  · simp (disch := omega) only [encodeCommand, commandWord_or_argAt, commandWord_argAt, BitVec.shiftLeft_zero]
    rfl
  · rw [BitVec.eq_of_toNat_eq (hm.trans (packArea_toNat x y).symm)]
    exact exec_configMutator rfl h hok rfl

/-- Settles O37: the updates store the operands as they are. -/
theorem plainConfigMutators : Obligations.PlainConfigMutators := by
  refine ⟨fun v r g b freq => ⟨?_, ?_, ?_⟩, fun s v vol r gr b freq g c w e rest h hok => ⟨?_, ?_, ?_⟩⟩
  case refine_1 | refine_2 | refine_3 =>
    simp (disch := omega) only [encodeCommand, commandWord_or_argAt, commandWord_argAt, BitVec.shiftLeft_zero]
    rfl
  all_goals exact exec_configMutator rfl h hok rfl

/-- Settles O39: the updates change the selected mirror, the interval by its clamp. -/
theorem alarmMutators : Obligations.AlarmMutators := by
  constructor
  · intro which iv r g b h
    refine ⟨?_, ?_, ?_⟩ <;>
    · simp (disch := omega) only [encodeCommand, commandWord_or_argAt, commandWord_argAt, BitVec.shiftLeft_zero]
      rfl
  · intro s which raw freq iv iv' r gr b al g c w e rest h hok hal hiv
    have hselected : al = alarmOf which s := by rw [hal]; cases which <;> rfl
    have hclamp : iv' = clampInterval iv := BitVec.eq_of_toNat_eq (hiv.trans (clampInterval_toNat iv).symm)
    rw [hselected, hclamp]
    exact ⟨exec_alarmMutator rfl h hok rfl, exec_alarmMutator rfl h hok rfl, exec_alarmMutator rfl h hok rfl⟩

end Sys2Proof.Machine
end

section
/-!
PROOFS. The transfers of a poll, each said once from its request to what the sequencer does with the answer
(44_poll.md R233 to R241).
-/

namespace Sys2Proof.Machine

/-! The tests a poll makes -/

/-- A read that brings `n` bytes is received whole (20_memory.md R62). -/
theorem received_of_brings {n : Nat} {a : Answer} (h : brings n a) : received n a = some a.data :=
  received_eq_some.mpr ⟨h.1, h.2, rfl⟩

/-- The mask 0xFE leaves a bit exactly when one above bit 0 is set (44_poll.md R234). -/
theorem needsWriteBack_eq_edgeSet (b : Byte) : needsWriteBack b = edgeSet b := by
  have hmask : b &&& 0xFE#8 = b >>> 1 <<< 1 := by
    ext i hi
    interval_cases i <;> simp
  have hvalue : (b &&& 0xFE#8).toNat = b.toNat / 2 * 2 := by
    rw [hmask, BitVec.toNat_shiftLeft, BitVec.toNat_ushiftRight, Nat.shiftLeft_eq, Nat.shiftRight_eq_div_pow]
    omega
  have hzero : b &&& 0xFE#8 = 0#8 ↔ b.toNat / 2 = 0 := by
    rw [← BitVec.toNat_inj, hvalue]
    exact mul_eq_zero_iff_right two_ne_zero
  rw [needsWriteBack, edgeSet, Bool.eq_iff_iff, bne_iff_ne, bne_iff_ne, ne_eq, hzero]

/-- The frame-ready flag is the parity of the byte (44_poll.md R236). -/
theorem frameReady_eq (b : Byte) : frameReady b = decide (b.toNat % 2 = 1) := by
  rw [frameReady, BitVec.getLsbD, Nat.testBit_zero]

/-- Refresh control without a new frame ends the poll with `NOT_READY`: bit 0 alone decides (44_poll.md R236). -/
theorem refreshRead_notReady {rf : Answer} {s : State} (hq : s.seq = .plRefresh) (hrf : brings 2 rf)
    (hbit : (byteAt rf.data 0).toNat % 2 = 0) :
    refreshRead rf s = { s with stg := { s.stg with refresh := rf.data }, seq := .plExit, outcome := .notReady } := by
  have hflag : (decRefresh rf.data).1 = false := (frameReady_eq _).trans (decide_eq_false (by omega))
  simp only [refreshRead, received_of_brings hrf, hflag, Bool.false_eq_true, if_false]
  exact raiseFail_open (by simp only [hq, openBracketExit])

/-- Refresh control with a new frame goes on to the overview (44_poll.md R236, R237). -/
theorem refreshRead_ready {rf : Answer} {s : State} (hrf : brings 2 rf) (hbit : (byteAt rf.data 0).toNat % 2 = 1) :
    refreshRead rf s = { s with stg := { s.stg with refresh := rf.data }, seq := .plOverview } := by
  have hflag : (decRefresh rf.data).1 = true := (frameReady_eq _).trans (decide_eq_true hbit)
  simp only [refreshRead, received_of_brings hrf, hflag, if_true]

/-- An overview whose lowest is not below its highest fails the check in both modes (44_poll.md R241, R242). -/
theorem validateFrame_invalid {s : State} (hq : s.seq = .plValidate)
    (h : (le16 s.stg.overview 12).toNat ≤ (le16 s.stg.overview 8).toNat) :
    validateFrame s = { s with seq := .plExit, outcome := .invalidFrame } := by
  have hvalid : frameValid (decOverview s.stg.overview) = false := decide_eq_false (Nat.not_lt.mpr h)
  have hchecked : validates s.cf = true := rfl
  simp only [validateFrame, hvalid, hchecked, Bool.not_false, Bool.and_self, if_true]
  exact raiseFail_open (by simp only [hq, openBracketExit])

/-! One transfer and its answer -/

/-- The request `r` issued and answered, none outstanding before and after; `hold` says whether the block owns the bus
after it (10_state.md R43, 20_memory.md R60). -/
def transferred (r : BusRequest) (hold : Bool) (rest : List Event) (s : State) : State :=
  { s with holding := hold, env := rest, busLog := s.busLog ++ [r] }

section
variable {p : Plan} {s : State} {a : Answer} {rest : List Event} (n : Nat)

/-- A request from its issue to the response to its answer. -/
theorem run_transfer {r : BusRequest} (hq : s.seq ≠ .idle) (hp : s.pending = none) (hr : advance p s = issue r s)
    (he : s.env = .answer a :: rest) :
    run p (n + 2) s = run p n (respond p r a (transferred r (holdingAfter r a s.holding) rest s)) := by
  rw [run_request n hq hp hr he, ← hp]
  rfl

/-- The status read: an edge goes to the write-back, else on to refresh control (44_poll.md R233, R234). -/
theorem run_plStatus (hq : s.seq = .plStatus) (hp : s.pending = none) (he : s.env = .answer a :: rest)
    (ha : brings 2 a) :
    run p (n + 2) s = run p n { transferred (.wrRd s.busAddr 0x00 2 false) false rest s with
      stg := { s.stg with status2 := a.data }
      seq := if edgeSet (byteAt a.data 0) then .plBtnack else .plRefresh } := by
  rw [run_transfer (r := .wrRd s.busAddr 0x00 2 false) n (by simp [hq]) hp (by simp only [advance, hq]; rfl) he]
  simp only [respond, transferred, hq, statusRead, received_of_brings ha, needsWriteBack_eq_edgeSet]
  rfl

/-- The button write-back acknowledged (44_poll.md R234). -/
theorem run_plBtnack (hq : s.seq = .plBtnack) (hp : s.pending = none) (he : s.env = .answer a :: rest)
    (ha : a.ok = true) :
    run p (n + 2) s = run p n { transferred (.wr s.busAddr 0x00 [byteAt s.stg.status2 0]) false rest s with
      seq := .plRefresh } := by
  rw [run_transfer (r := .wr s.busAddr 0x00 [byteAt s.stg.status2 0]) n (by simp [hq]) hp
    (by simp only [advance, hq]; rfl) he]
  simp only [respond, transferred, hq, buttonAcked, wrote, ha, if_true]
  rfl

/-- The refresh-control read, whatever its answer (44_poll.md R235). -/
theorem run_plRefresh (hq : s.seq = .plRefresh) (hp : s.pending = none) (he : s.env = .answer a :: rest) :
    run p (n + 2) s = run p n (refreshRead a (transferred (.wrRd s.busAddr 0x6E 2 false) false rest s)) := by
  rw [run_transfer (r := .wrRd s.busAddr 0x6E 2 false) n (by simp [hq]) hp (by simp only [advance, hq]; rfl) he]
  simp only [respond, transferred, hq]
  rfl

/-- The overview read: the pixel loop starts at chunk 0 with the bus held (44_poll.md R237, R238). -/
theorem run_plOverview (hq : s.seq = .plOverview) (hp : s.pending = none) (he : s.env = .answer a :: rest)
    (ha : brings 16 a) :
    run p (n + 2) s = run p n { transferred (.wrRd s.busAddr 0x70 16 true) true rest s with
      stg := { s.stg with overview := a.data, pixels := [] }, chunk := 0, seq := .plPixel } := by
  rw [run_transfer (r := .wrRd s.busAddr 0x70 16 true) n (by simp [hq]) hp (by simp only [advance, hq]; rfl) he]
  simp only [respond, transferred, hq, overviewRead, holdingAfter, received_of_brings ha, Option.isSome_some,
    Bool.and_self]

/-- A pixel chunk before the last, the bus held on (44_poll.md R238). -/
theorem run_plPixel_held (hq : s.seq = .plPixel) (hp : s.pending = none) (he : s.env = .answer a :: rest)
    (ha : brings 128 a) (hk : s.chunk.val < 5) :
    run p (n + 2) s = run p n { transferred (.rdMore s.busAddr 128 true) true rest s with
      stg := { s.stg with pixels := s.stg.pixels ++ a.data }, chunk := s.chunk + 1 } := by
  have hhold : chunkHold s.chunk = true := decide_eq_true hk
  rw [run_transfer (r := .rdMore s.busAddr 128 true) n (by simp [hq]) hp (by simp only [advance, hq, hhold]) he]
  simp only [respond, transferred, hq, chunkRead, hhold, holdingAfter, received_of_brings ha, Option.isSome_some,
    Bool.and_self, if_true]

/-- The last pixel chunk releases the bus and goes to step 6, past the acknowledgement in the automatic mode
(44_poll.md R238, R240). -/
theorem run_plPixel_last (hq : s.seq = .plPixel) (hp : s.pending = none) (he : s.env = .answer a :: rest)
    (ha : brings 128 a) (hk : s.chunk.val = 5) :
    run p (n + 2) s = run p n { transferred (.rdMore s.busAddr 128 false) false rest s with
      stg := { s.stg with pixels := s.stg.pixels ++ a.data }
      seq := if s.cf.funcCtrl.getLsbD 2 then .plAck else .plValidate } := by
  have hhold : chunkHold s.chunk = false := decide_eq_false (by omega)
  rw [run_transfer (r := .rdMore s.busAddr 128 false) n (by simp [hq]) hp (by simp only [advance, hq, hhold]) he]
  simp only [respond, transferred, hq, chunkRead, hhold, received_of_brings ha, Bool.false_eq_true, if_false]
  rfl

/-- The frame acknowledged (44_poll.md R240). -/
theorem run_plAck (hq : s.seq = .plAck) (hp : s.pending = none) (he : s.env = .answer a :: rest) (ha : a.ok = true) :
    run p (n + 2) s = run p n { transferred (.wr s.busAddr 0x6E [0x00]) false rest s with seq := .plValidate } := by
  rw [run_transfer (r := .wr s.busAddr 0x6E [0x00]) n (by simp [hq]) hp (by simp only [advance, hq]; rfl) he]
  simp only [respond, transferred, hq, frameAcked, wrote, ha, if_true]
  rfl

/-- The validity check of an invalid frame holds the failure over the restore (44_poll.md R241). -/
theorem run_plValidate_invalid (hq : s.seq = .plValidate) (hp : s.pending = none)
    (h : (le16 s.stg.overview 12).toNat ≤ (le16 s.stg.overview 8).toNat) :
    run p (n + 1) s = run p n { s with seq := .plExit, outcome := .invalidFrame } := by
  have hcheck : advance p s = validateFrame s := by simp only [advance, hq]
  rw [run_advance n (by simp [hq]) hp, hcheck, validateFrame_invalid hq h]

/-- The restore of the clock ends the poll with the result its bracket held (44_poll.md R244). -/
theorem run_plExit (hq : s.seq = .plExit) (hp : s.pending = none) (he : s.env = .answer a :: rest) :
    run p (n + 2) s = endWith 0 (transferred (.clkSet s.savedClock) s.holding rest s) := by
  have hend (t : State) : seqStep p (endWith 0 t) = none := by
    refine seqStep_idle ?_
    unfold endWith
    split <;> rfl
  rw [run_transfer (r := .clkSet s.savedClock) n (by simp [hq]) hp (by simp only [advance, hq]) he]
  simp only [respond, transferred, hq]
  exact run_stop n (hend _)

end

end Sys2Proof.Machine
end

section
/-!
PROOFS. The two stretches of a poll, its head up to the refresh-control read and its body up to the validity check; the
polls that end with `NOT_READY` and with `INVALID_FRAME` (44_poll.md R232 to R246).
-/

namespace Sys2Proof.Machine

/-! The head -/

/-- The answers of two stretches, in the order they are met. -/
theorem answers_append (as bs : List Answer) (rest : List Event) :
    answers (as ++ bs) ++ rest = answers as ++ (answers bs ++ rest) := by
  simp [answers]

/-- The state after the head of a poll, up to what its last answer says: clock saved, status staged, the requests of
the head issued (44_poll.md R232 to R235). -/
def headRead (g st : Answer) (rest : List Event) (s : State) : State :=
  { s with savedClock := g.hz, stg := { s.stg with status2 := st.data }, holding := false, env := rest,
           busLog := s.busLog ++ pollHead s.busAddr (scaledClock s) (byteAt st.data 0) }

/-- The head of a poll, with and without the write-back; without it two steps of fuel are left over (44_poll.md R232
to R235). -/
theorem run_pollHead {p : Plan} {s : State} {g c st wb rf : Answer} {rest : List Event} (n : Nat)
    (hq : s.seq = .plClk) (hp : s.pending = none) (he : s.env = answers (pollHeadAnswers g c st wb rf) ++ rest)
    (hst : brings 2 st) (hwb : wb.ok = true) :
    ∃ k, run p (n + 9) s = run p (n + k) (refreshRead rf { headRead g st rest s with seq := .plRefresh }) := by
  cases hedge : edgeSet (byteAt st.data 0) with
  | true =>
    have hevents : s.env = .answer g :: .answer c :: .answer st :: .answer wb :: .answer rf :: rest := by
      simpa [pollHeadAnswers, hedge, answers] using he
    refine ⟨0, ?_⟩
    rw [show n + 9 = n + 6 + 3 from rfl, run_bracket (n + 6) (.inr (.inr ⟨rfl, rfl, rfl⟩)) hq hp hevents,
      show n + 6 = n + 4 + 2 from rfl, run_plStatus (n + 4) rfl rfl rfl hst,
      show n + 4 = n + 2 + 2 from rfl, run_plBtnack (n + 2) (by simp [hedge]) rfl rfl hwb,
      run_plRefresh n rfl rfl rfl]
    simp [transferred, headRead, pollHead, hedge, hp]
  | false =>
    have hevents : s.env = .answer g :: .answer c :: .answer st :: .answer rf :: rest := by
      simpa [pollHeadAnswers, hedge, answers] using he
    refine ⟨2, ?_⟩
    rw [show n + 9 = n + 6 + 3 from rfl, run_bracket (n + 6) (.inr (.inr ⟨rfl, rfl, rfl⟩)) hq hp hevents,
      show n + 6 = n + 4 + 2 from rfl, run_plStatus (n + 4) rfl rfl rfl hst,
      show n + 4 = n + 2 + 2 from rfl, run_plRefresh (n + 2) (by simp [hedge]) rfl rfl]
    simp [transferred, headRead, pollHead, hedge, hp]

/-! The body -/

/-- The chunks before the last, any number of them: their bytes are staged in the order received, the bus stays held
(44_poll.md R238). -/
theorem run_plPixels {p : Plan} {s : State} {ps : List Answer} {k : Fin 6} {rest : List Event} (n : Nat)
    (hps : ∀ a ∈ ps, brings 128 a) (hq : s.seq = .plPixel) (hp : s.pending = none) (hh : s.holding = true)
    (he : s.env = answers ps ++ rest) (hk : k.val = s.chunk.val + ps.length) :
    run p (n + 2 * ps.length) s = run p n { s with
      stg := { s.stg with pixels := s.stg.pixels ++ ps.flatMap Answer.data }, chunk := k, env := rest
      busLog := s.busLog ++ List.replicate ps.length (.rdMore s.busAddr 128 true) } := by
  induction ps generalizing s with
  | nil =>
    have hchunk : k = s.chunk := Fin.ext hk
    have henv : rest = s.env := he.symm
    subst hchunk henv
    simp
  | cons a ps ih =>
    rw [List.length_cons] at hk
    have hlt : s.chunk.val < 5 := by omega
    have hnext : k.val = (s.chunk + 1).val + ps.length := by
      rw [Fin.val_add_one_of_lt' (by omega)]
      omega
    rw [List.length_cons, show n + 2 * (ps.length + 1) = n + 2 * ps.length + 2 by omega,
      run_plPixel_held (n + 2 * ps.length) hq hp he (hps a List.mem_cons_self) hlt,
      ih (fun b hb => hps b (List.mem_cons_of_mem a hb)) (by exact hq) (by exact hp) (by rfl) (by rfl) (by exact hnext)]
    simp [transferred, List.replicate_succ, hh]

/-- The state after the reads of the body: the overview and the six chunks staged, the bus released (44_poll.md R237,
R238). -/
def frameRead (ov : Answer) (ps : List Answer) (rest : List Event) (s : State) : State :=
  { s with stg := { s.stg with overview := ov.data, pixels := ps.flatMap Answer.data }, chunk := 5, holding := false,
           env := rest, busLog := s.busLog ++ pollBody s.busAddr false }

/-- The reads of the body; the acknowledgement mode says where they lead (44_poll.md R237, R238, R240). -/
theorem run_pollReads {p : Plan} {s : State} {ov p0 p1 p2 p3 p4 p5 : Answer} {rest : List Event} (n : Nat)
    (hq : s.seq = .plOverview) (hp : s.pending = none) (he : s.env = answers [ov, p0, p1, p2, p3, p4, p5] ++ rest)
    (hov : brings 16 ov) (hps : ∀ a ∈ [p0, p1, p2, p3, p4, p5], brings 128 a) :
    run p (n + 14) s = run p n { frameRead ov [p0, p1, p2, p3, p4, p5] rest s with
      seq := if s.cf.funcCtrl.getLsbD 2 then .plAck else .plValidate } := by
  have hheld : ∀ a ∈ [p0, p1, p2, p3, p4], brings 128 a := fun a ha => hps a (List.mem_append_left [p5] ha)
  have hlast : brings 128 p5 := hps p5 (by simp)
  rw [show n + 14 = n + 12 + 2 from rfl, run_plOverview (n + 12) hq hp he hov,
    show n + 12 = n + 2 + 2 * [p0, p1, p2, p3, p4].length from rfl,
    run_plPixels (k := 5) (rest := .answer p5 :: rest) (n + 2) hheld rfl (by exact hp) rfl rfl rfl,
    run_plPixel_last n rfl (by exact hp) rfl hlast rfl]
  simp [transferred, frameRead, pollBody]

/-- The body of a poll up to the validity check; without the acknowledgement two steps of fuel are left over
(44_poll.md R237 to R240). -/
theorem run_pollBody {p : Plan} {s : State} {ov p0 p1 p2 p3 p4 p5 ack : Answer} {rest : List Event} (n : Nat)
    (hq : s.seq = .plOverview) (hp : s.pending = none)
    (he : s.env = answers (pollBodyAnswers (s.cf.funcCtrl.getLsbD 2) ov p0 p1 p2 p3 p4 p5 ack) ++ rest)
    (hov : brings 16 ov) (hps : ∀ a ∈ [p0, p1, p2, p3, p4, p5], brings 128 a) (hack : ack.ok = true) :
    ∃ k, run p (n + 16) s = run p (n + k) { frameRead ov [p0, p1, p2, p3, p4, p5] rest s with
      seq := .plValidate, busLog := s.busLog ++ pollBody s.busAddr (s.cf.funcCtrl.getLsbD 2) } := by
  cases hmode : s.cf.funcCtrl.getLsbD 2 with
  | true =>
    have hevents : s.env = answers [ov, p0, p1, p2, p3, p4, p5] ++ .answer ack :: rest := by
      rw [he, hmode]
      rfl
    refine ⟨0, ?_⟩
    rw [show n + 16 = n + 2 + 14 from rfl, run_pollReads (n + 2) hq hp hevents hov hps, hmode,
      run_plAck n (by rfl) (by exact hp) (by rfl) hack]
    simp [transferred, frameRead, pollBody]
  | false =>
    have hevents : s.env = answers [ov, p0, p1, p2, p3, p4, p5] ++ rest := by
      rw [he, hmode]
      rfl
    refine ⟨2, ?_⟩
    rw [show n + 16 = n + 2 + 14 from rfl, run_pollReads (n + 2) hq hp hevents hov hps, hmode]
    rfl

/-! The whole poll -/

/-- The state in which an admitted poll starts (44_poll.md R230, R231). -/
def pollStarted (s : State) : State := { s with cur := encodeCommand .poll, busy := true, seq := .plClk }

/-- A poll that passes its admission runs from PL_CLK (44_poll.md R231). -/
theorem exec_poll_run {s : State} (h : PollReady s) : exec .poll s = .next (run planPoll fuel (pollStarted s)) := by
  rw [exec_command_of_plan s rfl, command_runs h.ready.busy (checkMirrors_passes h.begun h.loaded)]
  rfl

/-- The clock a poll sets is the maximum of the naturals (40_clock_scaler.md R130, R132). -/
theorem eq_scaledClock {s : State} {hz : Clock}
    (h : hz.toNat = max (6250 * 2 ^ (s.cf.refreshRate.toNat % 8)) s.baseClock.toNat) : hz = scaledClock s :=
  BitVec.eq_of_toNat_eq (h.trans (scaledClock_toNat s).symm)

/-- The staging of a poll whose frame is read completely (10_state.md R38). -/
def stagedWhole (st rf ov : Answer) (ps : List Answer) : Staging :=
  { status2 := st.data, refresh := rf.data, overview := ov.data, pixels := ps.flatMap Answer.data }

/-- A poll whose transfers all succeed reaches the validity check with its frame staged and nothing published
(44_poll.md R232 to R240). -/
theorem run_pollFrame {p : Plan} {s : State} {g c st wb rf ov p0 p1 p2 p3 p4 p5 ack : Answer}
    {events rest : List Event} (n : Nat) (ha : PollAnswered st wb rf ov p0 p1 p2 p3 p4 p5 ack) (hq : s.seq = .plClk)
    (hp : s.pending = none) (he : s.env = answers (pollHeadAnswers g c st wb rf) ++ events)
    (hevents : events = answers (pollBodyAnswers (s.cf.funcCtrl.getLsbD 2) ov p0 p1 p2 p3 p4 p5 ack) ++ rest) :
    ∃ k, run p (n + 25) s = run p (n + k) { s with
      savedClock := g.hz, stg := stagedWhole st rf ov [p0, p1, p2, p3, p4, p5], chunk := 5, holding := false
      env := rest, seq := .plValidate
      busLog := s.busLog ++ pollHead s.busAddr (scaledClock s) (byteAt st.data 0) ++
        pollBody s.busAddr (s.cf.funcCtrl.getLsbD 2) } := by
  have hchunks : ∀ a ∈ [p0, p1, p2, p3, p4, p5], brings 128 a := by
    simp [ha.chunk0, ha.chunk1, ha.chunk2, ha.chunk3, ha.chunk4, ha.chunk5]
  obtain ⟨k, hhead⟩ := run_pollHead (p := p) (n + 16) hq hp he ha.status ha.writeBack
  rw [refreshRead_ready ha.refresh ha.frameReady] at hhead
  obtain ⟨j, hbody⟩ := run_pollBody (p := p) (s := { headRead g st events s with
    stg := { s.stg with status2 := st.data, refresh := rf.data }, seq := .plOverview }) (n + k) rfl hp hevents
    ha.overview hchunks ha.acked
  refine ⟨k + j, ?_⟩
  rw [show n + 25 = n + 16 + 9 from rfl, hhead, show n + 16 + k = n + k + 16 by omega,
    show n + (k + j) = n + k + j by omega]
  exact hbody

/-- What a poll has written at its exit, staging aside: the clock saved, the chunks counted, the requests issued, the
result held over the restore (44_poll.md R244). -/
def pollHeld (g : Answer) (chunk : Fin 6) (c : Cause) (log : List BusRequest) (rest : List Event) (s : State) :
    State :=
  { s with savedClock := g.hz, chunk := chunk, outcome := c, env := rest, busLog := log }

/-- A poll that reaches its exit with a failure held restores the clock and ends with that cause, whatever it has staged
(44_poll.md R244, 60_exceptions.md R310). -/
theorem run_plExit_failed {p : Plan} {s : State} {stg : Staging} {g e : Answer} {chunk : Fin 6} {c : Cause}
    {log : List BusRequest} {rest : List Event} (n : Nat) (h : Ready s) (hc : c ≠ .none) :
    run p (n + 2) { pollHeld g chunk c log (.answer e :: rest) (pollStarted s) with
        seq := .plExit, stg := stg, holding := false } =
      withFail .poll c (pollHeld g chunk c (log ++ [.clkSet g.hz]) rest s) := by
  have hready : Ready (pollHeld g chunk c (log ++ [.clkSet g.hz]) rest s) := ⟨h.busy, h.seq, h.pending, h.holding⟩
  rw [run_plExit n rfl (by exact h.pending) rfl, endWith_fail (by exact hc), ← endFail_accepted hready]
  rfl

/-- Settles O44: after the head the frame-ready bit sends the poll to its exit. -/
theorem pollNotReady : Obligations.PollNotReady := by
  intro s hz g c st wb rf e rest h hhz hst hwb hrf hbit he
  obtain rfl := eq_scaledClock hhz
  rw [answers_append] at he
  obtain ⟨k, hhead⟩ := run_pollHead (p := planPoll) (s := pollStarted s) 503 rfl h.ready.pending he hst hwb
  rw [exec_poll_run h, fuel, hhead, refreshRead_notReady rfl hrf hbit, show 503 + k = 501 + k + 2 by omega]
  exact congrArg Host.Outcome.next (run_plExit_failed (501 + k) h.ready nofun)

/-- Settles O45: with its frame staged the poll fails the check, which sends it to its exit. -/
theorem pollInvalidFrame : Obligations.PollInvalidFrame := by
  intro s hz g c st wb rf ov p0 p1 p2 p3 p4 p5 ack e rest h hhz ha hinvalid he
  obtain rfl := eq_scaledClock hhz
  rw [answers_append, answers_append] at he
  obtain ⟨k, hframe⟩ := run_pollFrame (p := planPoll) (s := pollStarted s) 487 ha rfl h.ready.pending he rfl
  rw [exec_poll_run h, fuel, hframe, show 487 + k = 484 + k + 2 + 1 by omega,
    run_plValidate_invalid (484 + k + 2) rfl (by exact h.ready.pending) (by exact hinvalid)]
  exact congrArg Host.Outcome.next (run_plExit_failed (484 + k) h.ready nofun)

end Sys2Proof.Machine
end

section
/-!
PROOFS. The mapping from Celsius to a raw value: rounding to the nearest integer, then the clamp (45_accessors.md R280).
-/

namespace Sys2Proof.Machine

/-! The clamp -/

/-- What is not positive clamps to the lower end. -/
theorem clampRaw_of_nonpos {t : Int} (h : t ≤ 0) : clampRaw t = 0 := by
  obtain hneg | rfl := h.lt_or_eq
  · exact if_pos hneg
  · rfl

/-- What is at or above the upper end clamps to it. -/
theorem clampRaw_of_le {t : Int} (h : 65535 ≤ t) : clampRaw t = 65535 := by
  obtain habove | rfl := h.lt_or_eq
  · rw [clampRaw, if_neg (by omega), if_pos habove]
    rfl
  · rfl

/-- A raw value lies in the range of the clamp. -/
theorem clampRaw_toNat (r : Half) : clampRaw (r.toNat : Int) = r := by
  have hlt := r.isLt
  rw [clampRaw, if_neg (by omega), if_neg (by omega), BitVec.ofInt_natCast, BitVec.ofNat_toNat, BitVec.setWidth_eq]

/-! Rounding -/

/-- A number that is not negative rounds to the floor of a half more. -/
theorem roundHalfAway_of_nonneg {q : ℚ} (h : 0 ≤ q) : roundHalfAway q = ⌊q + 1 / 2⌋ := if_pos h

/-- A negative number rounds as its negation does. -/
theorem roundHalfAway_of_neg {q : ℚ} (h : q < 0) : roundHalfAway q = -⌊-q + 1 / 2⌋ := if_neg (not_le.mpr h)

/-- A negative number rounds to no positive one. -/
theorem roundHalfAway_nonpos {q : ℚ} (h : q < 0) : roundHalfAway q ≤ 0 := by
  rw [roundHalfAway_of_neg h, neg_nonpos]
  exact Int.floor_nonneg.mpr (by linarith)

/-- A number at or above an integer rounds to no smaller one. -/
theorem le_roundHalfAway {q : ℚ} {z : Int} (hq : 0 ≤ q) (h : (z : ℚ) ≤ q) : z ≤ roundHalfAway q := by
  rw [roundHalfAway_of_nonneg hq]
  exact Int.le_floor.mpr (by linarith)

/-- A number that is not negative rounds to the integer it is within a half of, a tie going up (R280). -/
theorem roundHalfAway_eq {q : ℚ} {z : Int} (hq : 0 ≤ q) (hlow : (z : ℚ) - 1 / 2 ≤ q) (hhigh : q < z + 1 / 2) :
    roundHalfAway q = z := by
  rw [roundHalfAway_of_nonneg hq]
  exact Int.floor_eq_iff.mpr ⟨by linarith, by linarith⟩

/-! The two together -/

/-- Below the range the raw value is the lower end, the tie at minus one half included. -/
theorem celsiusToRaw_of_neg {c : ℚ} (h : (c + 64) * 128 < 0) : celsiusToRaw c = 0 :=
  clampRaw_of_nonpos (roundHalfAway_nonpos h)

/-- Settles O13: a scaled value near a raw value is negative only near 0, where the clamp answers 0 too. -/
theorem celsiusToRawClampsAndRounds : Obligations.CelsiusToRawClampsAndRounds := by
  refine ⟨fun c h => celsiusToRaw_of_neg h, fun c h => ?above, fun c r hlow hhigh => ?near⟩
  case above => exact clampRaw_of_le (le_roundHalfAway (by linarith) (by exact_mod_cast h.le))
  case near =>
    obtain hneg | hnonneg := lt_or_ge ((c + 64) * 128) 0
    · have hlt : (r.toNat : ℚ) < 1 := by linarith
      have hzero : r = 0 := BitVec.eq_of_toNat_eq (Nat.lt_one_iff.mp (by exact_mod_cast hlt))
      rw [hzero, celsiusToRaw_of_neg hneg]
    · have hround : roundHalfAway ((c + 64) * 128) = r.toNat :=
        roundHalfAway_eq hnonneg (by exact_mod_cast hlow) (by exact_mod_cast hhigh)
      rw [celsiusToRaw, hround, clampRaw_toNat]

end Sys2Proof.Machine
end

section
/-!
PROOFS. The queries: their words (30_encoding.md R106), the projections they answer, and what is answered while these
exist and while they do not (45_accessors.md R271 to R278).
-/

namespace Sys2Proof

/-- A field that fits the argument keeps all its bits in the query word (R106). -/
theorem queryWord_setWidth {k : Nat} (qop : BitVec 4) (v : BitVec k) (h : k ≤ 12) :
    queryWord qop (v.setWidth 12) = queryWord qop 0#12 ||| v.setWidth 16 := by
  have hfits : v.toNat < 2 ^ 12 := v.isLt.trans_le (Nat.pow_le_pow_right (by decide) h)
  rw [queryWord, queryWord, setWidth_setWidth_of_lt hfits, BitVec.setWidth_zero, BitVec.or_zero]

/-- The word of a query whose argument is one field of all twelve bits. -/
theorem queryWord_eq (qop : BitVec 4) (v : BitVec 12) : queryWord qop v = queryWord qop 0#12 ||| v.setWidth 16 := by
  rw [← queryWord_setWidth qop v le_rfl, BitVec.setWidth_eq]

namespace Machine

/-! The answer -/

/-- A query whose projection does not exist yet is answered invalid (R272). -/
theorem exec_query_absent {i : Instr} {present : Bool} {v : Option (BitVec 32)} {s : State}
    (hp : present = false) (hi : exec i s = .next (replyWhen present v s)) : exec i s = .next (answered none s) := by
  subst hp
  exact hi

/-- A query whose projection exists is answered with its value, invalid where it has none. -/
theorem exec_query_present {i : Instr} {present : Bool} {v : Option (BitVec 32)} {s : State}
    (hp : present = true) (hi : exec i s = .next (replyWhen present v s)) : exec i s = .next (answered v s) := by
  subst hp
  cases v with
  | none => exact hi
  | some d => exact hi

/-! `QMIR` -/

/-- A byte within a sequence. -/
theorem getElem?_eq_some_byteAt {b : List Byte} {i : Nat} (h : i < b.length) : b[i]? = some (byteAt b i) := by
  rw [List.getElem?_eq_getElem h, byteAt, List.getD_eq_getElem _ _ h]

section
variable {a : Byte} {s : State}

/-- The Status mirror, the first of the four ranges of R271; the other three follow in the order of their offsets. -/
theorem mirrorByte_status (h : a.toNat ≤ 0x07) : mirrorByte a s = some (byteAt (encStatus s.st) a.toNat) := by
  rw [mirrorByte, if_pos (by omega)]
  exact getElem?_eq_some_byteAt (show a.toNat < 8 by omega)

theorem mirrorByte_config (h : 0x08 ≤ a.toNat ∧ a.toNat ≤ 0x17) :
    mirrorByte a s = some (byteAt (encConfig s.cf) (a.toNat - 0x08)) := by
  rw [mirrorByte, if_neg (by omega), if_pos (by omega)]
  exact getElem?_eq_some_byteAt (show a.toNat - 0x08 < 16 by omega)

theorem mirrorByte_alarmLo (h : 0x20 ≤ a.toNat ∧ a.toNat ≤ 0x27) :
    mirrorByte a s = some (byteAt (encAlarm s.al) (a.toNat - 0x20)) := by
  rw [mirrorByte, if_neg (by omega), if_neg (by omega), if_neg (by omega), if_pos (by omega)]
  exact getElem?_eq_some_byteAt (show a.toNat - 0x20 < 8 by omega)

theorem mirrorByte_alarmHi (h : 0x30 ≤ a.toNat ∧ a.toNat ≤ 0x37) :
    mirrorByte a s = some (byteAt (encAlarm s.ah) (a.toNat - 0x30)) := by
  rw [mirrorByte, if_neg (by omega), if_neg (by omega), if_neg (by omega), if_neg (by omega), if_neg (by omega),
    if_pos (by omega)]
  exact getElem?_eq_some_byteAt (show a.toNat - 0x30 < 8 by omega)

/-- The two gaps between the mirrors and what is past the last one (R271). -/
theorem mirrorByte_outside (hst : ¬ a.toNat ≤ 0x07) (hcf : ¬ (0x08 ≤ a.toNat ∧ a.toNat ≤ 0x17))
    (hal : ¬ (0x20 ≤ a.toNat ∧ a.toNat ≤ 0x27)) (hah : ¬ (0x30 ≤ a.toNat ∧ a.toNat ≤ 0x37)) :
    mirrorByte a s = none := by
  rw [mirrorByte, if_neg (by omega), if_neg (by omega)]
  split
  case isTrue => rfl
  case isFalse hgap =>
    rw [if_neg (by omega)]
    split
    case isTrue => rfl
    case isFalse => exact if_neg (by omega)

end

/-- Settles O49: one case for each range of R271 and one for what lies outside them. -/
theorem mirrorQuery : Obligations.MirrorQuery := by
  refine ⟨fun a => ?_, fun s a => ⟨fun hm => exec_query_absent hm rfl, fun hm => ?_⟩⟩
  · exact (queryWord_setWidth 0x0#4 a (by decide)).trans BitVec.zero_or
  · rw [exec_query_present (i := .qmir a) hm rfl]
    split
    case isTrue hst => rw [mirrorByte_status hst]
    split
    case isTrue hcf => rw [mirrorByte_config hcf]
    split
    case isTrue hal => rw [mirrorByte_alarmLo hal]
    split
    case isTrue hah => rw [mirrorByte_alarmHi hah]
    case isFalse hst hcf hal hah => rw [mirrorByte_outside hst hcf hal hah]

/-! `QPIX` and `QPIXC` -/

theorem pixelOr_of_lt {idx : BitVec 12} (s : State) (h : idx.toNat < 384) :
    pixelOr idx s = s.frame.pix[idx.toNat]'h := dif_pos h

/-- The lookup past the last pixel (R273). -/
theorem pixelOr_of_le {idx : BitVec 12} (s : State) (h : 384 ≤ idx.toNat) :
    pixelOr idx s = Config.pixelSentinel := dif_neg (Nat.not_lt.mpr h)

/-- A word is determined by its signed value (R282). -/
theorem celsiusWord_eq {v : Half} {d : BitVec 32} (h : d.toInt = (v.toNat : Int) - 8192) : celsiusWord v = d := by
  rw [celsiusWord, c128, ← h, BitVec.ofInt_toInt]

/-- Both pixel queries answer the pixel the lookup gives: `QPIX` raw, `QPIXC` signed (R273, R274). -/
theorem exec_pixelQueries {idx : BitVec 12} {s : State} {v : Half} (hf : s.framePresent = true)
    (hv : pixelOr idx s = v) :
    exec (.qpix idx) s = .next (answered (some (v.setWidth 32)) s) ∧
      ∀ d : BitVec 32, d.toInt = (v.toNat : Int) - 8192 → exec (.qpixc idx) s = .next (answered (some d) s) := by
  subst hv
  refine ⟨exec_query_present hf rfl, fun d hd => ?_⟩
  rw [← celsiusWord_eq hd]
  exact exec_query_present hf rfl

/-- Settles O50: within the frame the lookup gives the pixel, past it the sentinel. -/
theorem pixelQueries : Obligations.PixelQueries := by
  refine ⟨fun idx => ⟨queryWord_eq 0x1#4 idx, queryWord_eq 0x4#4 idx⟩, fun s idx => ⟨fun hf => ?_, fun hf h => ?_,
    fun hf h => ?_⟩⟩
  · exact ⟨exec_query_absent hf rfl, exec_query_absent hf rfl⟩
  · exact exec_pixelQueries hf (pixelOr_of_lt s h)
  · exact exec_pixelQueries hf (pixelOr_of_le s h)

/-! `QSUM` and `QSUMC` -/

/-- The fields of R275's table, in the order of their selectors. -/
def summaryTable (s : State) : List Nat :=
  [s.frame.sum.median.toNat, s.frame.sum.average.toNat, s.frame.sum.mostDiff.toNat,
    s.frame.sum.mostDiffX.toNat, s.frame.sum.mostDiffY.toNat, s.frame.sum.lowest.toNat,
    s.frame.sum.lowestX.toNat, s.frame.sum.lowestY.toNat, s.frame.sum.highest.toNat,
    s.frame.sum.highestX.toNat, s.frame.sum.highestY.toNat, s.frame.subpage.toNat]

/-- The selector is the position in the table, and no row stands past the twelfth (R275). -/
theorem summaryField_eq (sel : BitVec 4) (s : State) :
    summaryField sel s = (summaryTable s)[sel.toNat]?.map (BitVec.ofNat 32) := by
  unfold summaryField
  match sel.toNat with
  | 0 | 1 | 2 | 3 | 4 | 5 | 6 | 7 | 8 | 9 | 10 | 11 => simp [summaryTable]
  | _ + 12 => rfl

/-- Settles O51: the answer is the selected row of the table. -/
theorem summaryQuery : Obligations.SummaryQuery := by
  refine ⟨fun sel => queryWord_setWidth 0x2#4 sel (by decide), fun s sel => ⟨fun hf => exec_query_absent hf rfl,
    fun hf d hd => ?_⟩⟩
  subst hd
  rw [exec_query_present (i := .qsum sel) hf rfl, summaryField_eq]
  rfl

/-- The five selectors of R276, each with its raw value. -/
theorem summaryRaw_of_mem {sel : BitVec 4} {s : State} {v : Half}
    (h : (sel.toNat, v) ∈ [(0, s.frame.sum.median), (1, s.frame.sum.average), (2, s.frame.sum.mostDiff),
      (5, s.frame.sum.lowest), (8, s.frame.sum.highest)]) : summaryRaw sel s = some v := by
  simp only [List.mem_cons, List.not_mem_nil, Prod.mk.injEq, or_false] at h
  obtain ⟨hsel, rfl⟩ | ⟨hsel, rfl⟩ | ⟨hsel, rfl⟩ | ⟨hsel, rfl⟩ | ⟨hsel, rfl⟩ := h
  all_goals simp only [summaryRaw, hsel]

/-- The other selectors name no raw value (R276). -/
theorem summaryRaw_of_not_mem {sel : BitVec 4} {s : State} (h : sel.toNat ∉ [0, 1, 2, 5, 8]) :
    summaryRaw sel s = none := by
  simp only [List.mem_cons, List.not_mem_nil, or_false, not_or] at h
  obtain ⟨hmedian, haverage, hmostDiff, hlowest, hhighest⟩ := h
  unfold summaryRaw
  split
  case h_6 => rfl
  all_goals contradiction

/-- Settles O52: a selector of the five rows answers their raw value as a signed word, every other one nothing. -/
theorem summaryCelsiusQuery : Obligations.SummaryCelsiusQuery := by
  refine ⟨fun sel => queryWord_setWidth 0x5#4 sel (by decide), fun s sel => ⟨fun hf => exec_query_absent hf rfl,
    fun hf => ⟨fun hsel => ?other, fun v d hv hd => ?row⟩⟩⟩
  case other =>
    rw [exec_query_present (i := .qsumc sel) hf rfl, summaryRaw_of_not_mem hsel]
    rfl
  case row =>
    rw [exec_query_present (i := .qsumc sel) hf rfl, summaryRaw_of_mem hv, Option.map_some, celsiusWord_eq hd]

/-! `QBTN` and `QSTATE` -/

/-- A bit of a byte as a word (R277). -/
theorem bitWord_toNat (b : Byte) (k : Nat) :
    ((BitVec.ofBool (b.getLsbD k)).setWidth 32).toNat = b.toNat / 2 ^ k % 2 := by
  rw [BitVec.toNat_setWidth_of_le (by decide), BitVec.toNat_ofBool, BitVec.getLsbD, Nat.toNat_testBit]

/-- Each flag stands at its own bit, so the word is the sum of their weights (R278). -/
theorem stateWord_toNat (s : State) :
    (stateWord s).toNat = s.ident.toNat + 2 * s.mirrorsLoaded.toNat + 4 * s.framePresent.toNat +
      8 * s.busy.toNat + 16 * s.begun.toNat := by
  unfold stateWord
  generalize s.ident = ident, s.mirrorsLoaded = loaded, s.framePresent = present, s.busy = busy, s.begun = begun
  revert ident loaded present busy begun
  decide

/-- Settles O53: both answers are words of the given value. -/
theorem buttonAndStateQueries : Obligations.ButtonAndStateQueries := by
  refine ⟨fun bit => queryWord_setWidth 0x3#4 bit (by decide), by decide, fun s bit d =>
    ⟨fun hm => exec_query_absent hm rfl, fun hm hd => ?_, fun hd => ?_⟩⟩
  · have hbit : d = (BitVec.ofBool (s.st.button.getLsbD bit.toNat)).setWidth 32 :=
      BitVec.eq_of_toNat_eq (hd.trans (bitWord_toNat _ _).symm)
    rw [hbit]
    exact exec_query_present hm rfl
  · have hflags : d = stateWord s := BitVec.eq_of_toNat_eq (hd.trans (stateWord_toNat s).symm)
    rw [hflags]
    rfl

end Machine
end Sys2Proof
end

section
/-!
PROOFS. A command presented while another runs is not accepted (60_exceptions.md R307): a legal word decodes to a
command, which a busy block leaves alone, and so does an illegal word.
-/

namespace Sys2Proof

/-- A format gives the instruction of its row and no other (30_encoding.md R103). -/
theorem eq_of_withArgBits_ok {n : Nat} {w : CommandWord} {i j : Instr} (h : withArgBits n w i = .ok j) : j = i := by
  unfold withArgBits at h
  split at h
  case isTrue => exact (Except.ok.inj h).symm
  case isFalse => cases h

/-- The command port carries commands only: one case for each arm of the decoder (30_encoding.md R104). -/
theorem isCommand_of_decodeCommand {w : CommandWord} {i : Instr} (h : decodeCommand w = .ok i) :
    i.isCommand = true := by
  unfold decodeCommand at h
  split at h
  case h_20 => cases h
  all_goals
    rw [eq_of_withArgBits_ok h]
    rfl

namespace Machine

/-- A presented word that decodes is taken off and executed. -/
theorem step_of_decode_ok {s : State} {w : PortWord} {i : Instr} {rest : List Event}
    (henv : s.env = .port w :: rest) (hw : decode w = .ok i) : step s = exec i { s with env := rest } := by
  simp [step, henv, hw]

/-- An illegal command word while a command runs (R307). -/
theorem illegalWord_command_of_busy {s : State} (w : CommandWord) (h : s.busy = true) :
    illegalWord (.command w) s = s := by
  simp [illegalWord, h]

/-- A legal command while another one runs (R307). -/
theorem exec_command_of_busy {i : Instr} {s : State} (hi : i.isCommand = true) (h : s.busy = true) :
    exec i s = .next s := by
  obtain ⟨p, -, hexec⟩ := exec_command s hi
  rw [hexec, command_busy h]

/-- Settles O20: whether the word decodes or not, the busy block stays as it is once the word is taken off. -/
theorem busyCommandNotAccepted : Obligations.BusyCommandNotAccepted := by
  refine ⟨fun i s => exec_command_of_busy, fun s w rest hbusy henv => ?_⟩
  cases hw : decodeCommand w with
  | ok i =>
    rw [step_of_decode_ok henv hw]
    exact exec_command_of_busy (isCommand_of_decodeCommand hw) hbusy
  | error e =>
    rw [step_of_decode_error henv hw]
    exact congrArg _ (illegalWord_command_of_busy w hbusy)

end Machine
end Sys2Proof
end

section
/-!
PROOFS. Decoding and encoding undo each other on the two ports (30_encoding.md R101 to R107): a field is read back from
where the encoder put it, and the fields of a legal word are all of it.
-/

namespace Sys2Proof

/-! Fields of an argument -/

/-- A field that ends at bit `n` leaves nothing from there up (R103). -/
theorem argAt_ushiftRight {k : Nat} (a n : Nat) (v : BitVec k) (h : a + k ≤ n) : argAt a v >>> n = 0#40 := by
  ext i hi
  simp [argAt, BitVec.getLsbD_of_ge v (n + i - a) (by omega)]

/-- A bit of a field is the bit of its operand at that distance (R103). -/
theorem getLsbD_argAt {k : Nat} (a : Nat) (v : BitVec k) (j : Nat) (h : a + k ≤ 40) :
    (argAt a v).getLsbD j = (decide (a ≤ j) && v.getLsbD (j - a)) := by
  by_cases hj : j < 40
  · by_cases ha : a ≤ j
    · simp [argAt, hj, ha, show ¬ j < a by omega]
    · simp [argAt, ha, show j < a by omega]
  · rw [BitVec.getLsbD_of_ge _ _ (by omega), BitVec.getLsbD_of_ge v _ (by omega), Bool.and_false]

/-- A field read back from its place (R103). -/
theorem extractLsb'_argAt {k : Nat} (a : Nat) (v : BitVec k) (h : a + k ≤ 40) : (argAt a v).extractLsb' a k = v := by
  ext i hi
  simp [getLsbD_argAt a v _ h, BitVec.getLsbD_eq_getElem hi]

/-- A field shows nothing at a place above it. -/
theorem extractLsb'_argAt_above {k : Nat} (a b m : Nat) (v : BitVec k) (h : a + k ≤ 40) (hb : a + k ≤ b) :
    (argAt a v).extractLsb' b m = 0#m := by
  ext i hi
  simp [getLsbD_argAt a v _ h, BitVec.getLsbD_of_ge v (b + i - a) (by omega)]

/-- A field shows nothing at a place below it. -/
theorem extractLsb'_argAt_below {k : Nat} (a b m : Nat) (v : BitVec k) (h : a + k ≤ 40) (hb : b + m ≤ a) :
    (argAt a v).extractLsb' b m = 0#m := by
  ext i hi
  simp [getLsbD_argAt a v _ h, show ¬ a ≤ b + i by omega]

/-- The bit of a one-bit field (R103). -/
theorem getLsbD_argAt_ofBool (a : Nat) (v : Bool) (h : a < 40) : (argAt a (BitVec.ofBool v)).getLsbD a = v := by
  simp [getLsbD_argAt a _ _ (show a + 1 ≤ 40 by omega)]

/-- A field shows no bit above it. -/
theorem getLsbD_argAt_above {k : Nat} (a j : Nat) (v : BitVec k) (h : a + k ≤ 40) (hj : a + k ≤ j) :
    (argAt a v).getLsbD j = false := by
  simp [getLsbD_argAt a v _ h, BitVec.getLsbD_of_ge v (j - a) (by omega)]

/-- A format accepts the word of an argument that leaves its unused bits 0 (R101). -/
theorem withArgBits_commandWord (n : Nat) (op : Byte) (arg : BitVec 40) (i : Instr) :
    withArgBits n (commandWord op arg) i = if arg >>> n = 0#40 then .ok i else .error (.strayArgumentBit op) := by
  rw [withArgBits, argField_commandWord, opField_commandWord]

/-! Command words -/

/-- Settles O1: of every row the opcode selects the arm, the format accepts the argument, and each operand is read
back from its field. -/
theorem decodeEncodeCommand : Obligations.DecodeEncodeCommand := by
  intro i hcommand hfits
  cases i
  case qmir | qpix | qsum | qbtn | qpixc | qsumc | qstate => cases hcommand
  case setrate n =>
    have hn : n.toNat < 2 ^ 3 := of_decide_eq_true hfits
    simp (disch := omega) only [encodeCommand, decodeCommand, opField_commandWord, BitVec.reduceToNat,
      withArgBits_commandWord, argAt_ushiftRight, extractLsb'_commandWord, extractLsb'_argAt,
      setWidth_setWidth_of_lt hn, BitVec.setWidth_eq, if_true]
  case setnoise n =>
    have hn : n.toNat < 2 ^ 4 := of_decide_eq_true hfits
    simp (disch := omega) only [encodeCommand, decodeCommand, opField_commandWord, BitVec.reduceToNat,
      withArgBits_commandWord, argAt_ushiftRight, extractLsb'_commandWord, extractLsb'_argAt,
      setWidth_setWidth_of_lt hn, BitVec.setWidth_eq, if_true]
  all_goals
    simp (disch := omega) only [encodeCommand, decodeCommand, opField_commandWord, BitVec.reduceToNat,
      withArgBits_commandWord, BitVec.ushiftRight_or_distrib, argAt_ushiftRight, BitVec.zero_ushiftRight,
      extractLsb'_commandWord, BitVec.extractLsb'_or, extractLsb'_argAt, extractLsb'_argAt_above,
      extractLsb'_argAt_below, getLsbD_commandWord, BitVec.getLsbD_or, getLsbD_argAt_ofBool, getLsbD_argAt_above,
      ofBit_bit, BitVec.or_zero, BitVec.zero_or, Bool.or_false, if_true]

/-! The fields of a word -/

/-- Two adjacent fields of a word, placed where they stood, are the field of both. -/
theorem argAt_extract_append (w : CommandWord) (a k : Nat) (h : a + k ≤ 40) :
    argAt a (w.extractLsb' a k) ||| argAt 0 (w.extractLsb' 0 a) = argAt 0 (w.extractLsb' 0 (a + k)) := by
  apply BitVec.eq_of_getLsbD_eq
  intro j hj
  rw [BitVec.getLsbD_or, getLsbD_argAt a _ j (by omega), getLsbD_argAt 0 _ j (by omega),
    getLsbD_argAt 0 _ j (by omega), BitVec.getLsbD_extractLsb', BitVec.getLsbD_extractLsb',
    BitVec.getLsbD_extractLsb']
  by_cases ha : j < a
  · simp [ha, show j < a + k by omega, show ¬ a ≤ j by omega]
  · simp [ha, show a ≤ j by omega, show a + (j - a) = j by omega, show j - a < k ↔ j < a + k by omega]

/-- One bit of a word is its field of one bit. -/
theorem ofBool_getLsbD (w : CommandWord) (a : Nat) : BitVec.ofBool (w.getLsbD a) = w.extractLsb' a 1 := by
  ext i hi
  simp [show i = 0 by omega]

/-- A legal word is its opcode and the bits its format uses (R101). -/
theorem commandWord_of_fields {n op : Nat} {w : CommandWord} {i j : Instr} (hn : n ≤ 40)
    (hop : (opField w).toNat = op) (h : withArgBits n w i = .ok j) :
    commandWord (BitVec.ofNat 8 op) (argAt 0 (w.extractLsb' 0 n)) = w := by
  rw [← hop, BitVec.ofNat_toNat, BitVec.setWidth_eq]
  have hunused (k : Nat) (hnk : n ≤ k) (hk : k < 40) : w.getLsbD k = false := by
    have hbit := congrArg (·.getLsbD (k - n)) (withArgBits_ok h)
    simpa [argField, show n + (k - n) = k by omega, hk] using hbit
  apply BitVec.eq_of_getLsbD_eq
  intro k hk
  by_cases h40 : k < 40
  · rw [getLsbD_commandWord _ _ k h40, getLsbD_argAt 0 _ k (by omega), BitVec.getLsbD_extractLsb']
    by_cases hnk : n ≤ k
    · simp [hunused k hnk h40, show ¬ k < n by omega]
    · simp [show k < n by omega]
  · simp [commandWord, opField, h40, hk, getLsbD_argAt_above 0 k (w.extractLsb' 0 n) (by omega) (by omega),
      show 40 + (k - 40) = k by omega, show k - 40 < 8 by omega]

/-- A legal word of a format without an argument is its opcode alone. -/
theorem commandWord_of_no_fields {op : Nat} {w : CommandWord} {i j : Instr} (hop : (opField w).toNat = op)
    (h : withArgBits 0 w i = .ok j) : commandWord (BitVec.ofNat 8 op) 0#40 = w := by
  have hfields := commandWord_of_fields (by decide) hop h
  rwa [BitVec.eq_nil (w.extractLsb' 0 0)] at hfields

/-- A legal word encodes its instruction again: one case for each arm of the decoder (R103, R104). -/
theorem encodeCommand_of_decodeCommand {w : CommandWord} {i : Instr} (h : decodeCommand w = .ok i) :
    encodeCommand i = w := by
  unfold decodeCommand at h
  split at h
  case h_20 => cases h
  case h_2 hop | h_3 hop | h_4 hop | h_5 hop =>
    obtain rfl := eq_of_withArgBits_ok h
    exact commandWord_of_no_fields hop h
  all_goals
    rename_i hop
    obtain rfl := eq_of_withArgBits_ok h
    simp (disch := omega) only [encodeCommand, bit_ofBit, ofBool_getLsbD, BitVec.or_assoc, argAt_extract_append,
      BitVec.setWidth_setWidth_of_le, BitVec.setWidth_eq]
    exact commandWord_of_fields (by decide) hop h

/-- The two operands narrower than their byte are read from fields of 3 and 4 bits (decision D38). -/
theorem wellFormed_of_decodeCommand {w : CommandWord} {i : Instr} (h : decodeCommand w = .ok i) :
    i.wellFormed = true := by
  have hfits (k : Nat) (hk : k ≤ 8) : ((w.extractLsb' 0 k).setWidth 8).toNat < 2 ^ k := by
    rw [BitVec.toNat_setWidth_of_le hk]
    exact BitVec.isLt _
  unfold decodeCommand at h
  split at h
  case h_20 => cases h
  case h_10 =>
    rw [eq_of_withArgBits_ok h]
    exact decide_eq_true (hfits 3 (by decide))
  case h_11 =>
    rw [eq_of_withArgBits_ok h]
    exact decide_eq_true (hfits 4 (by decide))
  all_goals
    rw [eq_of_withArgBits_ok h]
    rfl

/-- Settles O2: every arm of the decoder answers a well-formed command, whose fields are all of the word. -/
theorem encodeDecodeCommand : Obligations.EncodeDecodeCommand := fun _ _ h =>
  ⟨isCommand_of_decodeCommand h, wellFormed_of_decodeCommand h, encodeCommand_of_decodeCommand h⟩

/-! Query words -/

/-- A format accepts the query word of an argument that leaves its unused bits 0 (R106). -/
theorem withQueryBits_queryWord (n : Nat) (qop : BitVec 4) (arg : BitVec 12) (i : Instr) :
    withQueryBits n (queryWord qop arg) i = if arg >>> n = 0#12 then .ok i else .error (.strayQueryBit qop) := by
  rw [withQueryBits, extractLsb'_queryWord qop arg 0 12 (by decide), qopField_queryWord, BitVec.extractLsb'_eq_self]

/-- A field of `k` bits leaves nothing from bit `k` up. -/
theorem setWidth_ushiftRight {k : Nat} (v : BitVec k) : v.setWidth 12 >>> k = 0#12 := by
  ext i hi
  simp

/-- The field of a query read back (R106). -/
theorem extractLsb'_setWidth {k : Nat} (v : BitVec k) (h : k ≤ 12) : (v.setWidth 12).extractLsb' 0 k = v := by
  ext i hi
  simp [show i < 12 by omega, BitVec.getLsbD_eq_getElem hi]

/-- Of every row the query opcode selects the arm and the argument is read back. -/
theorem decodeQuery_encodeQuery {i : Instr} (h : i.isCommand = false) : decodeQuery (encodeQuery i) = .ok i := by
  cases i
  case qpix idx | qpixc idx =>
    have hfits : idx >>> 12 = 0#12 := by simpa using setWidth_ushiftRight idx
    simp (disch := omega) only [encodeQuery, decodeQuery, qopField_queryWord, BitVec.reduceToNat,
      withQueryBits_queryWord, hfits, extractLsb'_queryWord, BitVec.extractLsb'_eq_self, if_true]
  case qmir v | qsum v | qbtn v | qsumc v =>
    simp (disch := omega) only [encodeQuery, decodeQuery, qopField_queryWord, BitVec.reduceToNat,
      withQueryBits_queryWord, setWidth_ushiftRight, extractLsb'_queryWord, extractLsb'_setWidth, if_true]
  case qstate => rfl
  all_goals cases h

/-- A legal query word is its opcode and the bits its format uses (R106). -/
theorem queryWord_of_field {n qop : Nat} {q : QueryWord} {i j : Instr}
    (hop : (qopField q).toNat = qop) (h : withQueryBits n q i = .ok j) :
    queryWord (BitVec.ofNat 4 qop) ((q.extractLsb' 0 n).setWidth 12) = q := by
  rw [← hop, BitVec.ofNat_toNat, BitVec.setWidth_eq]
  have hunused (k : Nat) (hnk : n ≤ k) (hk : k < 12) : q.getLsbD k = false := by
    have hbit := congrArg (·.getLsbD (k - n)) (withQueryBits_ok h)
    simpa [show n + (k - n) = k by omega, hk] using hbit
  apply BitVec.eq_of_getLsbD_eq
  intro k hk
  by_cases h12 : k < 12
  · by_cases hnk : n ≤ k
    · simp [queryWord, h12, - BitVec.getLsbD_eq_getElem, hunused k hnk h12, show ¬ k < n by omega]
    · simp [queryWord, h12, hk, show k < n by omega]
  · simp [queryWord, qopField, h12, hk, show 12 + (k - 12) = k by omega, show k - 12 < 4 by omega]

/-- A format gives the query of its row and no other (30_encoding.md R106). -/
theorem eq_of_withQueryBits_ok {n : Nat} {q : QueryWord} {i j : Instr} (h : withQueryBits n q i = .ok j) : j = i := by
  unfold withQueryBits at h
  split at h
  case isTrue => exact (Except.ok.inj h).symm
  case isFalse => cases h

/-- A legal query word encodes its query again: one case for each arm of the decoder (R107). -/
theorem encodeQuery_of_decodeQuery {q : QueryWord} {i : Instr} (h : decodeQuery q = .ok i) :
    i.isCommand = false ∧ encodeQuery i = q := by
  unfold decodeQuery at h
  split at h
  case h_8 => cases h
  case h_7 hop =>
    obtain rfl := eq_of_withQueryBits_ok h
    have hword := queryWord_of_field hop h
    rw [BitVec.eq_nil (q.extractLsb' 0 0)] at hword
    exact ⟨rfl, hword⟩
  all_goals
    rename_i hop
    obtain rfl := eq_of_withQueryBits_ok h
    have hword := queryWord_of_field hop h
    refine ⟨rfl, ?_⟩
    simpa only [encodeQuery, BitVec.setWidth_eq] using hword

/-- Settles O3: both directions, the first for every query and the second for every arm of the decoder. -/
theorem queryEncodingRoundTrip : Obligations.QueryEncodingRoundTrip :=
  ⟨fun _ => decodeQuery_encodeQuery, fun _ _ => encodeQuery_of_decodeQuery⟩

/-! The rows of the two maps -/

/-- A word of a format's row has its opcode and leaves its unused argument bits 0. -/
theorem fields_of_formatRow_matches {k a m op n : Nat} {w : BitVec k} (hk : k = a + m) (hn : n ≤ a) (hop : op < 2 ^ m)
    (h : (formatRow k a op n).matches w = true) :
    (w.extractLsb' a m).toNat = op ∧ w.extractLsb' 0 a >>> n = 0#a := by
  simp only [formatRow, OpcodeRow.matches, beq_iff_eq] at h
  have hbit (j : Nat) := congrArg (·.getLsbD j) h
  constructor
  · have hfield : w.extractLsb' a m = BitVec.ofNat m op := by
      apply BitVec.eq_of_getLsbD_eq
      intro j hj
      have hjk : w.getLsbD (a + j) = (BitVec.ofNat k op).getLsbD j := by
        simpa [show a + j < k by omega, show ¬ a + j < n by omega, show a + j - n < k by omega, show j < k by omega]
          using hbit (a + j)
      rw [BitVec.getLsbD_extractLsb', hjk, BitVec.getLsbD_ofNat, BitVec.getLsbD_ofNat]
      simp only [hj, show j < k by omega, decide_true, Bool.true_and]
    rw [hfield, BitVec.toNat_ofNat, Nat.mod_eq_of_lt hop]
  · ext j hj
    by_cases ha : n + j < a
    · simpa [ha, show n + j < k by omega, show j < k by omega] using hbit (n + j)
    · simp [ha]

/-- The opcode and the number of argument bits of each row of the opcode map R104, in its order. -/
def commandFormats : List (Nat × Nat) :=
  [(0x01, 40), (0x02, 0), (0x03, 0), (0x04, 0), (0x10, 0), (0x11, 1), (0x20, 1), (0x21, 1), (0x22, 1), (0x23, 3),
   (0x24, 4), (0x25, 16), (0x26, 8), (0x27, 24), (0x28, 24), (0x29, 8), (0x30, 17), (0x31, 25), (0x32, 25)]

/-- The opcode and the number of argument bits of each row of the query map R107, in its order. -/
def queryFormats : List (Nat × Nat) := [(0x0, 8), (0x1, 12), (0x2, 4), (0x3, 3), (0x4, 12), (0x5, 4), (0x6, 0)]

/-- The rows of the opcode map are those of the formats. -/
theorem commandRows_eq : commandRows = commandFormats.map fun f => formatRow 48 40 f.1 f.2 := by decide

/-- The rows of the query map are those of the formats. -/
theorem queryRows_eq : queryRows = queryFormats.map fun f => formatRow 16 12 f.1 f.2 := by decide

/-- A word with the opcode of a format and its unused bits 0 is legal: one case for each row (R104). -/
theorem decodeCommand_ok_of_fields {w : CommandWord} {f : Nat × Nat} (hf : f ∈ commandFormats)
    (hop : (opField w).toNat = f.1) (hz : argField w >>> f.2 = 0#40) : ∃ i, decodeCommand w = .ok i := by
  simp only [commandFormats, List.mem_cons, List.not_mem_nil, or_false] at hf
  rcases hf with rfl | rfl | rfl | rfl | rfl | rfl | rfl | rfl | rfl | rfl | rfl | rfl | rfl | rfl | rfl | rfl | rfl |
    rfl | rfl
  all_goals simp only [decodeCommand, hop, withArgBits, hz, if_true, Except.ok.injEq, exists_eq']

/-- A query word with the opcode of a format and its unused bits 0 is legal: one case for each row (R107). -/
theorem decodeQuery_ok_of_fields {q : QueryWord} {f : Nat × Nat} (hf : f ∈ queryFormats)
    (hop : (qopField q).toNat = f.1) (hz : q.extractLsb' 0 12 >>> f.2 = 0#12) : ∃ i, decodeQuery q = .ok i := by
  simp only [queryFormats, List.mem_cons, List.not_mem_nil, or_false] at hf
  rcases hf with rfl | rfl | rfl | rfl | rfl | rfl | rfl
  all_goals simp only [decodeQuery, hop, withQueryBits, hz, if_true, Except.ok.injEq, exists_eq']

/-- Settles O4: a legal word is a row's of the map, and a row's word has its opcode and no stray bit. -/
theorem commandLegalIffRow : Obligations.CommandLegalIffRow := by
  refine fun w => ⟨fun ⟨i, hi⟩ => commandRow_of_decodeCommand hi, fun ⟨r, hr, hm⟩ => ?_⟩
  rw [commandRows_eq, List.mem_map] at hr
  obtain ⟨f, hf, rfl⟩ := hr
  have hbounds : ∀ f ∈ commandFormats, f.2 ≤ 40 ∧ f.1 < 2 ^ 8 := by decide
  obtain ⟨hop, hz⟩ := fields_of_formatRow_matches (m := 8) rfl (hbounds f hf).1 (hbounds f hf).2 hm
  exact decodeCommand_ok_of_fields hf hop hz

/-- Settles O5: as for the opcode map, with the query map's field widths. -/
theorem queryLegalIffRow : Obligations.QueryLegalIffRow := by
  refine fun q => ⟨fun ⟨i, hi⟩ => queryRow_of_decodeQuery hi, fun ⟨r, hr, hm⟩ => ?_⟩
  rw [queryRows_eq, List.mem_map] at hr
  obtain ⟨f, hf, rfl⟩ := hr
  have hbounds : ∀ f ∈ queryFormats, f.2 ≤ 12 ∧ f.1 < 2 ^ 4 := by decide
  obtain ⟨hop, hz⟩ := fields_of_formatRow_matches (m := 4) rfl (hbounds f hf).1 (hbounds f hf).2 hm
  exact decodeQuery_ok_of_fields hf hop hz

/-- Settles O6: the decoder evaluates on each word of the table R116. -/
theorem workedEncodingsDecode : Obligations.WorkedEncodingsDecode := by
  unfold Obligations.WorkedEncodingsDecode
  decide

end Sys2Proof
end

section
/-!
PROOFS. The Register Codec: every field by its offset, the round trips, the pixels and the snapshot (41_codec.md R141 to
R154).
-/

namespace Sys2Proof.Machine

/-! Bytes -/

/-- A 16-bit value from two bytes is that of their naturals (20_memory.md R71). -/
theorem le16_eq_halfOf (b : List Byte) (i : Nat) : le16 b i = halfOf (byteAt b i) (byteAt b (i + 1)) := by
  apply BitVec.eq_of_toNat_eq
  have hlo := (byteAt b i).isLt
  have hhi := (byteAt b (i + 1)).isLt
  rw [le16_toNat, halfOf, BitVec.toNat_ofNat, Nat.mod_eq_of_lt (by omega)]

/-- The two bytes of a 16-bit value, low byte first. -/
theorem bytesOf_eq (v : Half) : bytesOf v = [lowByte v, highByte v] := by
  have hlow : BitVec.ofNat 8 v.toNat = lowByte v := by
    apply BitVec.eq_of_toNat_eq
    rw [BitVec.toNat_ofNat, lowByte_toNat]
  have hhigh : BitVec.ofNat 8 (v.toNat / 256) = highByte v := by
    apply BitVec.eq_of_toNat_eq
    have hlt := v.isLt
    rw [BitVec.toNat_ofNat, highByte_toNat, Nat.mod_eq_of_lt (by omega)]
  rw [bytesOf, hlow, hhigh]

/-- A list is its bytes by offset. -/
theorem eq_map_byteAt {n : Nat} {b : List Byte} (h : b.length = n) : b = (List.range n).map (byteAt b) := by
  apply List.ext_getElem (by simp [h])
  intro i hi _
  rw [List.getElem_map, List.getElem_range, byteAt, List.getD_eq_getElem _ _ hi]

/-! The round trips -/

/-- A Status block is re-encoded byte for byte (R154). -/
theorem encStatus_decStatus {b : List Byte} (h : b.length = 8) : encStatus (decStatus b) = b :=
  (eq_map_byteAt h).symm

/-- A Config block is re-encoded byte for byte (R154). -/
theorem encConfig_decConfig {b : List Byte} (h : b.length = 16) : encConfig (decConfig b) = b := by
  simp only [encConfig, decConfig, lowByte_le16, highByte_le16]
  exact (eq_map_byteAt h).symm

/-- An Alarm block is re-encoded byte for byte (R154). -/
theorem encAlarm_decAlarm {b : List Byte} (h : b.length = 8) : encAlarm (decAlarm b) = b := by
  simp only [encAlarm, decAlarm, lowByte_le16, highByte_le16]
  exact (eq_map_byteAt h).symm

/-- A Config struct is decoded from its encoding (R154). -/
theorem decConfig_encConfig (c : ConfigRegs) : decConfig (encConfig c) = c := by
  have hfreq : le16 (encConfig c) 10 = c.buzzerFreq := le16_of_bytes rfl rfl
  simp only [decConfig, hfreq]
  rfl

/-- An Alarm struct is decoded from its encoding (R154). -/
theorem decAlarm_encAlarm (a : Alarm) : decAlarm (encAlarm a) = a := by
  have hthreshold : le16 (encAlarm a) 0 = a.threshold := le16_of_bytes rfl rfl
  have hfreq : le16 (encAlarm a) 2 = a.buzzerFreq := le16_of_bytes rfl rfl
  simp only [decAlarm, hthreshold, hfreq]
  rfl

/-- Settles O7: the round trips, then the offsets of the encoders and of the decoders. -/
theorem codecRoundTrip : Obligations.CodecRoundTrip := by
  refine ⟨fun _ => encStatus_decStatus, fun _ => encConfig_decConfig, fun _ => encAlarm_decAlarm, fun _ => rfl,
    decConfig_encConfig, decAlarm_encAlarm, fun _ => rfl, fun c => ?config, fun a => ?alarm,
    fun b0 b1 b2 b3 b4 b5 b6 b7 => ⟨rfl, ?decAlarm, ?decRefresh⟩,
    fun b0 b1 b2 b3 b4 b5 b6 b7 b8 b9 b10 b11 b12 b13 b14 b15 => ⟨?decConfig, ?decOverview⟩⟩
  case config =>
    rw [bytesOf_eq]
    rfl
  case alarm =>
    rw [bytesOf_eq, bytesOf_eq]
    rfl
  case decRefresh => exact Prod.ext (frameReady_eq b0) rfl
  case decAlarm | decConfig | decOverview =>
    simp only [decAlarm, decConfig, decOverview, le16_eq_halfOf]
    rfl

/-! Pixels and snapshot -/

/-- Settles O8: pixel `k` of the list of pairs, whose bytes are the little-endian pair. -/
theorem pixelsLittleEndian : Obligations.PixelsLittleEndian := by
  intro p k h
  have hpixel : (decPixels p)[k]'h = le16 p (2 * k) := decPairs_getElem (by rwa [decPairs_length])
  rw [hpixel, le16_toNat]

/-- Settles O9: each range has the length of its block, whose decoding is re-encoded byte for byte. -/
theorem snapshotSplit : Obligations.SnapshotSplit := by
  intro b h
  exact ⟨encStatus_decStatus (by simp [h]), encConfig_decConfig (by simp [h]), encAlarm_decAlarm (by simp [h]),
    encAlarm_decAlarm (by simp [h])⟩

end Sys2Proof.Machine
end

section
/-!
PROOFS. The raw to Celsius mapping under exact arithmetic (45_accessors.md R279 to R283).
-/

namespace Sys2Proof.Machine

/-- The scaled value of a raw value's temperature is the raw value (R279, R280). -/
theorem rawToCelsius_scaled (r : Half) : (rawToCelsius r + 64) * 128 = (r.toNat : ℚ) := by
  rw [rawToCelsius]
  ring

/-- An integer rounds to itself. -/
theorem roundHalfAway_intCast (z : Int) : roundHalfAway (z : ℚ) = z := by
  obtain hneg | hnonneg := lt_or_ge z 0
  · have hq : (z : ℚ) < 0 := by exact_mod_cast hneg
    have hfloor : ⌊-(z : ℚ) + 1 / 2⌋ = -z := Int.floor_eq_iff.mpr ⟨by push_cast; linarith, by push_cast; linarith⟩
    rw [roundHalfAway_of_neg hq, hfloor, neg_neg]
  · exact roundHalfAway_eq (by exact_mod_cast hnonneg) (by linarith) (by linarith)

/-- Settles O12: the scaled temperature of a raw value is an integer within the clamp. -/
theorem celsiusRoundTrip : Obligations.CelsiusRoundTrip := by
  intro r
  have hround := roundHalfAway_intCast (r.toNat : Int)
  rw [Int.cast_natCast] at hround
  rw [celsiusToRaw, rawToCelsius_scaled, hround, clampRaw_toNat]

/-- The scaled value of a temperature in units of 1/128 degree is the offset integer (R282). -/
theorem celsiusToRaw_fixedPoint (t : Int) : celsiusToRaw ((t : ℚ) / 128) = clampRaw (t + 8192) := by
  have hscaled : ((t : ℚ) / 128 + 64) * 128 = ((t + 8192 : Int) : ℚ) := by
    push_cast
    ring
  rw [celsiusToRaw, hscaled, roundHalfAway_intCast]

/-- Settles O14: both directions of the fixed-point form, and the order of the raw values. -/
theorem fixedPointExact : Obligations.FixedPointExact := by
  refine ⟨fun r => ?_, celsiusToRaw_fixedPoint, fun a b => ?_⟩
  · rw [c128, rawToCelsius]
    push_cast
    ring
  · rw [BitVec.lt_def, ← Nat.cast_lt (α := ℚ), ← rawToCelsius_scaled a, ← rawToCelsius_scaled b]
    constructor <;> intro h <;> linarith

end Sys2Proof.Machine
end

section
/-!
PROOFS. Reset, what a step presents, and the refusals before the first bus request (10_state.md R48, 60_exceptions.md
R303, R306, R313).
-/

namespace Sys2Proof.Machine

/-! Reset -/

/-- Settles O15: the reset state evaluates field by field. -/
theorem resetValues : Obligations.ResetValues :=
  ⟨rfl, rfl, rfl, rfl, rfl, rfl, rfl, rfl, rfl, rfl, rfl, rfl, rfl⟩

/-- A reset is taken off and resets the block (70_reset_and_hazards.md R340). -/
theorem step_reset {s : State} {rest : List Event} (henv : s.env = .reset :: rest) :
    step s = .next (resetBlock { s with env := rest }) := by
  simp only [step, henv]

/-- Settles O16: the step resets the block, which keeps the log and the later events only. -/
theorem resetAtAnyTime : Obligations.ResetAtAnyTime := fun _ _ henv =>
  ⟨_, step_reset henv, ⟨rfl, rfl, rfl, rfl⟩, rfl, rfl, rfl, rfl, rfl, rfl, rfl, rfl, rfl, rfl, rfl, rfl⟩

/-! A presented word -/

/-- Settles O17: a table row's word that decodes is presented as such a word. -/
theorem stepRunsDecodedWord : Obligations.StepRunsDecodedWord := by
  refine ⟨fun s w i rest => step_of_decode_ok, fun s nbits w i h => ?_⟩
  have hw : decode (tablePortWord nbits w) = .ok i := by
    unfold decodeTableWord at h
    split at h
    case h_1 hok => rw [hok, Option.some.inj h]
    case h_2 => cases h
  exact step_of_decode_ok rfl hw

/-! The refusals -/

/-- Every command but `BEGIN` asks for a session first (60_exceptions.md R313). -/
theorem check_noSession {i : Instr} {p : Plan} {s : State} (hp : planOf i = some p)
    (hi : ∀ a hz, i ≠ .beginSession a hz) (hb : s.begun = false) : p.check s = some .noSession := by
  rcases planOf_cases hp with ⟨a, hz, rfl, -⟩ | ⟨rfl, rfl⟩ | ⟨rfl, rfl⟩ | ⟨rfl, rfl⟩ | ⟨b, rfl⟩ | ⟨f, rfl⟩ |
    ⟨which, f, rfl⟩ | ⟨v, rfl, rfl⟩
  · exact absurd rfl (hi a hz)
  · exact checkSession_noSession hb
  · exact checkMirrors_noSession hb
  · exact checkMirrors_noSession hb
  · exact checkSession_noSession hb
  · exact checkSession_noSession hb
  · exact checkSession_noSession hb
  · simp only [planChaddr, hb, Bool.false_eq_true, if_false]

/-- Settles O25: the session is the first check of all these commands. -/
theorem noSessionRefusal : Obligations.NoSessionRefusal := by
  intro i s hcommand hi h hb
  obtain ⟨p, hp, -⟩ := exec_command s hcommand
  exact exec_refused h hp (check_noSession hp hi hb)

/-- Settles O26: both commands ask for session and mirrors. -/
theorem noMirrorRefusal : Obligations.NoMirrorRefusal := fun _ h hb hm =>
  ⟨exec_refused h rfl (checkMirrors_noMirror hb hm), exec_refused h rfl (checkMirrors_noMirror hb hm)⟩

/-- The range check of an address operand over naturals (60_exceptions.md R303). -/
theorem addrValid_iff (v : Byte) : addrValid v = true ↔ 0x08 ≤ v.toNat ∧ v.toNat ≤ 0x77 := by
  rw [addrValid, Bool.and_eq_true, decide_eq_true_iff, decide_eq_true_iff]
  exact Iff.rfl

/-- Settles O27: an address out of range fails the check of `BEGIN`, and in a session that of `CHADDR`. -/
theorem badAddressRejected : Obligations.BadAddressRejected := by
  intro s v hz h hv
  have hinvalid : ¬ addrValid v = true := fun hvalid => by
    have hrange := (addrValid_iff v).mp hvalid
    omega
  exact ⟨exec_refused h rfl (if_neg hinvalid), fun hb => exec_refused h rfl (by simp only [planChaddr, hb, hinvalid,
    if_true, Bool.false_eq_true, if_false])⟩

end Sys2Proof.Machine
end

section
/-!
PROOFS. What a query is: its answer is a function of the published state, written to the query port (45_accessors.md
R270).
-/

namespace Sys2Proof.Machine

/-- A projection's answer on the query port. -/
theorem replyWhen_eq_answered (present : Bool) (v : Option (BitVec 32)) (s : State) :
    replyWhen present v s = answered (if present then v else none) s := by
  cases present <;> cases v <;> rfl

/-- What a query answers, `none` for the invalid answer (R271 to R278). A command answers nothing. -/
def queryAnswer (i : Instr) (s : State) : Option (BitVec 32) :=
  match i with
  | .qmir addr => if s.mirrorsLoaded then (mirrorByte addr s).map (BitVec.setWidth 32) else none
  | .qpix idx => if s.framePresent then some ((pixelOr idx s).setWidth 32) else none
  | .qsum sel => if s.framePresent then summaryField sel s else none
  | .qbtn bit => if s.mirrorsLoaded then some ((BitVec.ofBool (s.st.button.getLsbD bit.toNat)).setWidth 32) else none
  | .qpixc idx => if s.framePresent then some (celsiusWord (pixelOr idx s)) else none
  | .qsumc sel => if s.framePresent then (summaryRaw sel s).map celsiusWord else none
  | .qstate => some (stateWord s)
  | _ => none

/-- Every query writes its answer to the query port and nothing else (R270). -/
theorem exec_query {i : Instr} (s : State) (h : i.isCommand = false) :
    exec i s = .next (answered (queryAnswer i s) s) := by
  cases i
  case qstate => rfl
  case qmir | qpix | qsum | qbtn | qpixc | qsumc => exact congrArg Host.Outcome.next (replyWhen_eq_answered _ _ s)
  all_goals cases h

/-- Settles O54: the answer is the query's, on its port. -/
theorem queriesChangeNothing : Obligations.QueriesChangeNothing := fun i s h => ⟨queryAnswer i s, exec_query s h⟩

/-- A state of which only the published registers are given. -/
def ofPublished (v : Published) : State :=
  { State.reset with
    st := v.st, cf := v.cf, al := v.al, ah := v.ah, frame := v.frame, ident := v.ident, begun := v.begun
    mirrorsLoaded := v.mirrorsLoaded, framePresent := v.framePresent, busy := v.busy }

/-- The projections read the published registers only (R270). -/
theorem queryAnswer_ofPublished (i : Instr) (s : State) :
    queryAnswer i (ofPublished (published s)) = queryAnswer i s := by
  cases i <;> rfl

/-- Settles O55: both answers are that of the state with their common published registers. -/
theorem queriesSeePublishedStateOnly : Obligations.QueriesSeePublishedStateOnly := by
  intro i s1 s2 t1 t2 hi hpub h1 h2
  have hanswer : queryAnswer i s1 = queryAnswer i s2 := by
    rw [← queryAnswer_ofPublished i s1, hpub, queryAnswer_ofPublished i s2]
  obtain rfl := Host.Outcome.next.inj ((exec_query s1 hi).symm.trans h1)
  obtain rfl := Host.Outcome.next.inj ((exec_query s2 hi).symm.trans h2)
  rw [hanswer]
  exact ⟨rfl, rfl⟩

end Sys2Proof.Machine
end

section
/-!
PROOFS. What each step of an operation can do, said once: the check of a snapshot, the return of an identification, a
block write, the transfers and the check of a poll (42_identify.md R172, R176, 43_config_writer.md R192, 44_poll.md R233
to R243); and what the plan of a command can change of the state.
-/

namespace Sys2Proof.Machine

/-! Plans -/

/-- What all plans share: the retry loop is entered at BG_INIT, which begins a session for it and does nothing for
another caller; an update changes mirrors; last lines change `bus_addr` at most (42_identify.md R175,
43_config_writer.md R196, R205). -/
structure IsPlan (p : Plan) : Prop where
  first : p.first ≠ .idle ∧ (p.caller = .retryLoop → p.first = .bgInit)
  init : (p.caller ≠ .retryLoop ∧ ∀ s, p.init s = s) ∨ ∃ a hz, ∀ s, p.init s = beginSessionInit a hz s
  update : ∃ (fc : ConfigRegs → ConfigRegs) (fl fh : Alarm → Alarm), ∀ s,
    mutated p s = { s with cf := fc s.cf, al := fl s.al, ah := fh s.ah }
  commit : ∃ fa : BusAddr → BusAddr, ∀ s, p.commit s = { s with busAddr := fa s.busAddr }

/-- A plan that begins no session and neither updates nor moves the address. -/
theorem isPlan_plainPlan (check : State → Option Cause) {first : Seq} {caller : Caller} (hf : first ≠ .idle)
    (hc : caller ≠ .retryLoop) : IsPlan (plainPlan check first caller) :=
  ⟨⟨hf, fun h => absurd h hc⟩, .inl ⟨hc, fun _ => rfl⟩, ⟨id, id, id, fun _ => rfl⟩, ⟨id, fun _ => rfl⟩⟩

/-- The plan of `BEGIN` (42_identify.md R175). -/
theorem isPlan_planBegin (a : Byte) (hz : Clock) : IsPlan (planBegin a hz) :=
  ⟨⟨nofun, fun _ => rfl⟩, .inr ⟨a, hz, fun _ => rfl⟩, ⟨id, id, id, fun _ => rfl⟩, ⟨id, fun _ => rfl⟩⟩

/-- A Config Writer plan, which asks for its identification itself. -/
theorem IsWriterPlan.isPlan {p : Plan} (h : IsWriterPlan p) (hc : p.caller = .writer) (hi : p.init = id) : IsPlan p :=
  ⟨⟨by simp [h.first], by simp [hc]⟩, .inl ⟨by simp [hc], fun s => by rw [hi]; rfl⟩, h.update, h.commit⟩

/-- Every command's plan is one. -/
theorem isPlan_of_planOf {i : Instr} {p : Plan} (hp : planOf i = some p) : IsPlan p := by
  rcases planOf_cases hp with ⟨a, hz, -, rfl⟩ | ⟨-, rfl⟩ | ⟨-, rfl⟩ | ⟨-, rfl⟩ | ⟨b, rfl⟩ | ⟨f, rfl⟩ |
    ⟨which, f, rfl⟩ | ⟨v, -, rfl⟩
  · exact isPlan_planBegin a hz
  · exact isPlan_plainPlan _ nofun nofun
  · exact isPlan_plainPlan _ nofun nofun
  · exact isPlan_plainPlan _ nofun nofun
  · exact (isWriterPlan_writerPlan b).isPlan rfl rfl
  · exact (isWriterPlan_configMutator f).isPlan rfl rfl
  · exact (isWriterPlan_alarmMutator which f).isPlan rfl rfl
  · exact (isWriterPlan_planChaddr v).isPlan rfl rfl

/-! The steps of the identification and of a block write -/

section
variable {p : Plan} {s : State} {a : Answer} {r : BusRequest}

/-- ID_CHECK loads a matching snapshot or drops the tracker with a cause (42_identify.md R172). -/
theorem identCheck_cases (hq : s.seq = .idCheck) :
    (∃ b, byteAt b 4 = Config.id0Const ∧ byteAt b 5 = Config.id1Const ∧
      identCheck s = { loadMirrors b s with outcome := .none, seq := .idExit }) ∨
    ∃ c, c ≠ .none ∧ identCheck s = { s with ident := false, outcome := c, seq := .idExit } := by
  have hfail (c : Cause) : raiseFail c { s with ident := false } =
      { s with ident := false, outcome := c, seq := .idExit } :=
    raiseFail_open (by simp only [hq, openBracketExit])
  unfold identCheck
  split
  case h_1 => exact .inr ⟨.transport, nofun, hfail _⟩
  case h_2 b _ =>
    split
    case isTrue hid => exact .inl ⟨b, hid.1, hid.2, rfl⟩
    case isFalse => exact .inr ⟨.identMismatch, nofun, hfail _⟩

/-- The end of a closed bracket is a success or a failure by the result it held (60_exceptions.md R310, R311). -/
theorem endWith_cases (v : BitVec 32) (s : State) :
    s.outcome = .none ∧ endWith v s = endOk v s ∨ s.outcome ≠ .none ∧ endWith v s = endFail s.outcome s := by
  by_cases h : s.outcome = .none
  · exact .inl ⟨h, endWith_ok h⟩
  · exact .inr ⟨h, endWith_fail h⟩

/-- An attempt has returned: done, at once or with the last attempt, else the delay (42_identify.md R176). -/
theorem attemptReturned_cases (s : State) :
    attemptReturned s = { s with seq := .bgDone } ∨
    s.retry - 1 = 0 ∧ attemptReturned s = { s with retry := s.retry - 1, seq := .bgDone } ∨
    s.retry - 1 ≠ 0 ∧ attemptReturned s = { s with retry := s.retry - 1, seq := .bgDelay } := by
  unfold attemptReturned
  split
  case isTrue => exact .inl rfl
  case isFalse =>
    by_cases hr : s.retry - 1 = 0
    · exact .inr (.inl ⟨hr, by rw [if_pos hr]⟩)
    · exact .inr (.inr ⟨hr, by rw [if_neg hr]⟩)

/-- The identification returns to its caller: the command ends, an attempt has returned, or the writer goes on
identified or ends with the cause (42_identify.md R172, 60_exceptions.md R322 (c)). -/
theorem identReturned_cases (p : Plan) (s : State) :
    p.caller = .command ∧ identReturned p s = endWith 0 s ∨
    p.caller = .retryLoop ∧ identReturned p s = attemptReturned s ∨
    p.caller = .writer ∧ (s.outcome = .none ∧ identReturned p s = { s with seq := afterEnsure p } ∨
      s.outcome ≠ .none ∧ identReturned p s = endFail s.outcome s) := by
  unfold identReturned
  split
  case h_1 hc => exact .inl ⟨hc, rfl⟩
  case h_2 hc => exact .inr (.inl ⟨hc, rfl⟩)
  case h_3 hc =>
    refine .inr (.inr ⟨hc, ?_⟩)
    split
    case isTrue ho => exact .inl ⟨ho, rfl⟩
    case isFalse ho => exact .inr ⟨ho, rfl⟩

/-- WR_WRITE holds its result over the restore (43_config_writer.md R192). -/
theorem blockWritten_cases (hq : s.seq = .wrWrite) :
    ∃ c, blockWritten a s = { s with outcome := c, seq := .wrExit } := by
  unfold blockWritten
  split
  case isTrue => exact ⟨.none, rfl⟩
  case isFalse => exact ⟨.transport, raiseFail_open (by simp only [hq, openBracketExit])⟩

/-- WR_EXIT ends the command, the tracker by the result of the write (43_config_writer.md R192). -/
theorem writeFinished_cases (commit : State → State) (s : State) :
    writeFinished commit s = endOk 0 (commit { s with ident := true }) ∨
      writeFinished commit s = endFail s.outcome { s with ident := false } := by
  unfold writeFinished
  split
  case isTrue => exact .inl rfl
  case isFalse => exact .inr rfl

/-- The opening of a bracket goes on to the operation clock or into the bracket (20_memory.md R84). -/
theorem bracketOpened_cases (clock : Clock) (nxt : Seq) (r : BusRequest) (a : Answer) (s : State) :
    r = .clkGet ∧ bracketOpened clock nxt r a s = issue (.clkSet clock) { s with savedClock := a.hz } ∨
      r ≠ .clkGet ∧ bracketOpened clock nxt r a s = { s with seq := nxt } := by
  cases r
  case clkGet => exact .inl ⟨rfl, rfl⟩
  all_goals exact .inr ⟨nofun, rfl⟩

end

/-! The steps of a poll -/

/-- A poll whose bracket holds a failure goes to its exit (44_poll.md R244). -/
def pollFailed (c : Cause) (s : State) : State := { s with seq := .plExit, outcome := c }

section
variable {s : State} {a : Answer}

/-- A failure with the poll's bracket open. -/
theorem raiseFail_eq_pollFailed {c : Cause} (h : openBracketExit s.seq = some .plExit) :
    raiseFail c s = pollFailed c s := raiseFail_open h

/-- The status read (44_poll.md R233, R234). -/
theorem statusRead_cases (hq : s.seq = .plStatus) :
    (∃ b, b.length = 2 ∧ (statusRead a s = { s with stg := { s.stg with status2 := b }, seq := .plBtnack } ∨
      statusRead a s = { s with stg := { s.stg with status2 := b }, seq := .plRefresh })) ∨
    statusRead a s = pollFailed .transport s := by
  unfold statusRead
  split
  case h_1 => exact .inr (raiseFail_eq_pollFailed (by simp only [hq, openBracketExit]))
  case h_2 b hb =>
    obtain ⟨-, hlen, rfl⟩ := received_eq_some.mp hb
    refine .inl ⟨_, hlen, ?_⟩
    split
    case isTrue => exact .inl rfl
    case isFalse => exact .inr rfl

/-- The button write-back (44_poll.md R234). -/
theorem buttonAcked_cases (hq : s.seq = .plBtnack) :
    buttonAcked a s = { s with seq := .plRefresh } ∨ buttonAcked a s = pollFailed .transport s := by
  unfold buttonAcked
  split
  case isTrue => exact .inl rfl
  case isFalse => exact .inr (raiseFail_eq_pollFailed (by simp only [hq, openBracketExit]))

/-- The refresh-control read: the frame is ready, is not, or the read failed (44_poll.md R235, R236). -/
theorem refreshRead_cases (hq : s.seq = .plRefresh) :
    (∃ b, b.length = 2 ∧ (frameReady (byteAt b 0) = true ∧
        refreshRead a s = { s with stg := { s.stg with refresh := b }, seq := .plOverview } ∨
      refreshRead a s = pollFailed .notReady { s with stg := { s.stg with refresh := b } })) ∨
    refreshRead a s = pollFailed .transport s := by
  unfold refreshRead
  split
  case h_1 => exact .inr (raiseFail_eq_pollFailed (by simp only [hq, openBracketExit]))
  case h_2 b hb =>
    obtain ⟨-, hlen, rfl⟩ := received_eq_some.mp hb
    refine .inl ⟨_, hlen, ?_⟩
    split
    case isTrue hready => exact .inl ⟨hready, rfl⟩
    case isFalse => exact .inr (raiseFail_eq_pollFailed (by simp only [hq, openBracketExit]))

/-- The overview read (44_poll.md R237). -/
theorem overviewRead_cases (hq : s.seq = .plOverview) :
    (∃ b, received 16 a = some b ∧ b.length = 16 ∧ overviewRead a s =
      { s with stg := { s.stg with overview := b, pixels := [] }, chunk := 0, seq := .plPixel }) ∨
    received 16 a = none ∧ overviewRead a s = pollFailed .transport s := by
  unfold overviewRead
  split
  case h_1 hb => exact .inr ⟨hb, raiseFail_eq_pollFailed (by simp only [hq, openBracketExit])⟩
  case h_2 b hb => exact .inl ⟨b, hb, (received_eq_some.mp hb).2.2 ▸ (received_eq_some.mp hb).2.1, rfl⟩

/-- A pixel chunk before the last, the last one, or a failed one (44_poll.md R238, R240). -/
theorem chunkRead_cases (hq : s.seq = .plPixel) :
    (∃ b, received 128 a = some b ∧ b.length = 128 ∧
      (s.chunk.val < 5 ∧ chunkRead a s =
          { s with stg := { s.stg with pixels := s.stg.pixels ++ b }, chunk := s.chunk + 1 } ∨
        s.chunk.val = 5 ∧ (chunkRead a s =
            { s with stg := { s.stg with pixels := s.stg.pixels ++ b }, seq := .plAck } ∨
          chunkRead a s = { s with stg := { s.stg with pixels := s.stg.pixels ++ b }, seq := .plValidate }))) ∨
    received 128 a = none ∧ chunkRead a s = pollFailed .transport s := by
  unfold chunkRead
  split
  case h_1 hb => exact .inr ⟨hb, raiseFail_eq_pollFailed (by simp only [hq, openBracketExit])⟩
  case h_2 b hb =>
    refine .inl ⟨b, hb, (received_eq_some.mp hb).2.2 ▸ (received_eq_some.mp hb).2.1, ?_⟩
    by_cases hk : s.chunk.val < 5
    · exact .inl ⟨hk, if_pos (decide_eq_true hk)⟩
    · refine .inr ⟨by omega, ?_⟩
      have hhold : chunkHold s.chunk = false := decide_eq_false hk
      simp only [hhold, Bool.false_eq_true, if_false]
      split
      case isTrue => exact .inl rfl
      case isFalse => exact .inr rfl

/-- The frame-ready acknowledgement (44_poll.md R240). -/
theorem frameAcked_cases (hq : s.seq = .plAck) :
    frameAcked a s = { s with seq := .plValidate } ∨ frameAcked a s = pollFailed .transport s := by
  unfold frameAcked
  split
  case isTrue => exact .inl rfl
  case isFalse => exact .inr (raiseFail_eq_pollFailed (by simp only [hq, openBracketExit]))

/-- The validity check, which both modes make (44_poll.md R241, R242). -/
theorem validateFrame_cases (hq : s.seq = .plValidate) :
    frameValid (decOverview s.stg.overview) = true ∧ validateFrame s = { s with seq := .plPublish } ∨
    validateFrame s = pollFailed .invalidFrame s := by
  have hchecked : validates s.cf = true := rfl
  unfold validateFrame
  cases hv : frameValid (decOverview s.stg.overview) with
  | true => exact .inl ⟨rfl, by simp only [Bool.not_true, Bool.and_false, Bool.false_eq_true, if_false]⟩
  | false =>
    rw [hchecked]
    exact .inr (raiseFail_eq_pollFailed (by simp only [hq, openBracketExit]))

end

end Sys2Proof.Machine
end

section
/-!
PROOFS. The places the sequencer goes (10_state.md R40): from a state with a request it issues that request and, once
answered, goes on; the other states it passes at once. Said once, with what no such step touches.
-/

namespace Sys2Proof.Machine

/-- The sequencer states that wait for the answer to a request (10_state.md R40). -/
def requests : Seq → Bool
  | .idle | .idCheck | .bgInit | .bgDone | .wrEnsure | .wrMutate | .plValidate | .plPublish | .cq => false
  | _ => true

/-- The plain moves of the sequencer (10_state.md R40): all but the two entries of an identification, the attempts of
`BEGIN` and the pixel loop. -/
def moves : List (Seq × Seq) :=
  [(.idClk, .idRead), (.idRead, .idCheck), (.idCheck, .idExit), (.idExit, .idle), (.idExit, .bgDone),
   (.idExit, .wrMutate), (.idExit, .wrClk), (.bgDelay, .idClk), (.bgDone, .idle), (.wrEnsure, .wrMutate),
   (.wrEnsure, .wrClk), (.wrMutate, .wrClk), (.wrClk, .wrWrite), (.wrWrite, .wrExit), (.wrExit, .idle),
   (.plClk, .plStatus), (.plStatus, .plBtnack), (.plStatus, .plRefresh), (.plStatus, .plExit),
   (.plBtnack, .plRefresh), (.plBtnack, .plExit), (.plRefresh, .plOverview), (.plRefresh, .plExit),
   (.plOverview, .plExit), (.plPixel, .plAck), (.plPixel, .plValidate), (.plPixel, .plExit), (.plAck, .plValidate),
   (.plAck, .plExit), (.plValidate, .plPublish), (.plValidate, .plExit), (.plPublish, .plExit), (.plExit, .idle),
   (.cq, .idle)]

/-- Where the sequencer goes when it leaves the state of `s` for that of `t`. -/
inductive Goes (p : Plan) (s t : State) : Prop
  /-- A plain move; the last attempt of `BEGIN` is counted on the way to BG_DONE. -/
  | on {q : Seq} (q' : Seq) (hs : s.seq = q) (ht : t.seq = q') (hm : (q, q') ∈ moves)
      (hr : q' = .bgDone ∨ t.retry = s.retry)
  /-- BG_INIT enters the first attempt (42_identify.md R175). -/
  | begins (hs : s.seq = .bgInit) (ht : t.seq = .idClk) (hr : p.caller = .retryLoop → t.retry ≠ 0)
  /-- WR_ENSURE enters the identification (43_config_writer.md R191). -/
  | ensures (hs : s.seq = .wrEnsure) (ht : t.seq = .idClk) (hr : t.retry = s.retry)
  /-- A failed attempt that is not the last (42_identify.md R176). -/
  | again (hs : s.seq = .idExit) (ht : t.seq = .bgDelay) (hc : p.caller = .retryLoop) (hr : t.retry = s.retry - 1)
      (h0 : t.retry ≠ 0)
  /-- The overview leads to chunk 0 (44_poll.md R238). -/
  | pixels (hs : s.seq = .plOverview) (ht : t.seq = .plPixel) (hk : t.chunk = 0)
  /-- A chunk before the last leads to the next (44_poll.md R238). -/
  | chunk (hs : s.seq = .plPixel) (ht : t.seq = .plPixel) (hlt : s.chunk.val < 5) (hk : t.chunk = s.chunk + 1)

/-- What no step of the sequencer touches but for the request it issues and the answer it takes: the log, the events,
the command, the query port; and `busy`, which falls at IDLE (10_state.md R34). -/
structure Quiet (s t : State) : Prop where
  busLog : t.busLog = s.busLog
  env : t.env = s.env
  pending : t.pending = s.pending
  cur : t.cur = s.cur
  busy : t.busy = (s.busy && decide (t.seq ≠ .idle))

section
variable {p : Plan} {s : State}

/-! With no request outstanding -/

/-- A state with a request issues it; it is a listed one (20_memory.md R73). -/
theorem advance_request (p : Plan) (h : requests s.seq = true) :
    ∃ r, advance p s = issue r s ∧ requestFits s r = true ∧ listedAccess r = true := by
  have hblock : listedAccess (blockRequest p.block s) = true := by
    rcases p.block with _ | _ | _ <;> rfl
  cases hq : s.seq
  case idle | idCheck | bgInit | bgDone | wrEnsure | wrMutate | plValidate | plPublish | cq =>
    simp only [hq, requests, Bool.false_eq_true] at h
  case wrWrite => exact ⟨blockRequest p.block s, by simp [advance, hq], by simp [requestFits, hq, blockRequest], hblock⟩
  all_goals exact ⟨_, by simp only [advance, hq]; rfl, by simp [requestFits, hq, chunkHold], by simp [listedAccess]⟩

/-- The registers of `Quiet` but for `busy`'s fall. -/
def undisturbed (s : State) : List BusRequest × List Event × Option BusRequest × CommandWord × Bool :=
  (s.busLog, s.env, s.pending, s.cur, s.busy)

/-- A step that does not end the command. -/
theorem quiet_of_going {s t : State} (h : undisturbed t = undisturbed s) (hq : t.seq ≠ .idle) : Quiet s t := by
  simp only [undisturbed, Prod.mk.injEq] at h
  obtain ⟨hlog, henv, hpending, hcur, hbusy⟩ := h
  exact ⟨hlog, henv, hpending, hcur, by rw [hbusy, decide_eq_true hq, Bool.and_true]⟩

/-- A plain move that does not end the command. -/
theorem goes_on {t : State} {q : Seq} (q' : Seq) (hs : s.seq = q) (hm : (q, q') ∈ moves) (ht : t.seq = q')
    (hi : q' ≠ .idle) (hr : t.retry = s.retry) (hk : undisturbed t = undisturbed s) : Goes p s t ∧ Quiet s t :=
  ⟨.on q' hs ht hm (.inr hr), quiet_of_going hk (ht ▸ hi)⟩

/-- The failure exit with no bracket open ends the command. -/
theorem endFail_goes {q : Seq} (c : Cause) (hs : s.seq = q) (hm : (q, .idle) ∈ moves) :
    Goes p s (endFail c s) ∧ Quiet s (endFail c s) :=
  ⟨.on .idle hs rfl hm (.inr rfl), rfl, rfl, rfl, rfl, (Bool.and_false _).symm⟩

/-- The success exit ends the command. -/
theorem endOk_goes {q : Seq} (v : BitVec 32) (hs : s.seq = q) (hm : (q, .idle) ∈ moves) :
    Goes p s (endOk v s) ∧ Quiet s (endOk v s) :=
  ⟨.on .idle hs rfl hm (.inr rfl), rfl, rfl, rfl, rfl, (Bool.and_false _).symm⟩

/-- The end of a closed bracket. -/
theorem endWith_goes {q : Seq} (v : BitVec 32) (hs : s.seq = q) (hm : (q, .idle) ∈ moves) :
    Goes p s (endWith v s) ∧ Quiet s (endWith v s) := by
  rcases endWith_cases v s with ⟨-, h⟩ | ⟨-, h⟩ <;> rw [h]
  · exact endOk_goes v hs hm
  · exact endFail_goes _ hs hm

/-- WR_ENSURE and an identification that succeeded for a writer go on to the update or to the write (60_exceptions.md
R322 (a)). -/
theorem afterEnsure_cases (p : Plan) : afterEnsure p = .wrMutate ∨ afterEnsure p = .wrClk := by
  unfold afterEnsure
  split
  case isTrue => exact .inl rfl
  case isFalse => exact .inr rfl

/-- A state without a request is passed at once. -/
theorem advance_goes (hplan : IsPlan p) (hs : s.seq ≠ .idle) (h : requests s.seq = false) :
    Goes p s (advance p s) ∧ Quiet s (advance p s) := by
  cases hq : s.seq
  case idle => exact absurd hq hs
  case idCheck =>
    simp only [advance, hq]
    rcases identCheck_cases hq with ⟨b, -, -, ht⟩ | ⟨c, -, ht⟩ <;> rw [ht] <;>
      exact goes_on .idExit hq (by decide) rfl nofun rfl rfl
  case bgInit =>
    simp only [advance, hq]
    rcases hplan.init with ⟨hc, hi⟩ | ⟨a, hz, hi⟩ <;> rw [hi]
    · exact ⟨.begins hq rfl fun hc' => absurd hc' hc, quiet_of_going rfl nofun⟩
    · exact ⟨.begins hq rfl fun _ => (by decide : Config.retryBound ≠ 0), quiet_of_going rfl nofun⟩
  case bgDone =>
    simp only [advance, hq]
    exact endWith_goes _ hq (by decide)
  case wrEnsure =>
    simp only [advance, hq]
    cases hi : s.ident with
    | false => exact ⟨.ensures hq rfl rfl, quiet_of_going rfl nofun⟩
    | true =>
      rcases afterEnsure_cases p with ha | ha <;> rw [ha]
      · exact goes_on .wrMutate hq (by decide) rfl nofun rfl rfl
      · exact goes_on .wrClk hq (by decide) rfl nofun rfl rfl
  case wrMutate =>
    obtain ⟨fc, fl, fh, hf⟩ := hplan.update
    have hadv : advance p s = { mutated p s with seq := .wrClk } := by
      simp only [advance, hq]
      rfl
    rw [hadv, hf]
    exact goes_on .wrClk hq (by decide) rfl nofun rfl rfl
  case plValidate =>
    simp only [advance, hq]
    rcases validateFrame_cases hq with ⟨-, ht⟩ | ht <;> rw [ht]
    · exact goes_on .plPublish hq (by decide) rfl nofun rfl rfl
    · exact goes_on .plExit hq (by decide) rfl nofun rfl rfl
  case plPublish =>
    simp only [advance, hq]
    exact goes_on .plExit hq (by decide) rfl nofun rfl rfl
  case cq =>
    simp only [advance, hq]
    exact endOk_goes _ hq (by decide)
  all_goals simp only [hq, requests, Bool.true_eq_false] at h

/-! With the request answered -/

/-- The answer to `ClkGet` at the opening of a bracket is followed by `ClkSet` at once (20_memory.md R84). -/
def OpensBracket (r : BusRequest) (s t : State) : Prop :=
  r = .clkGet ∧ requests s.seq = true ∧ ∃ clock saved, t = issue (.clkSet clock) { s with savedClock := saved }

/-- The opening of a bracket. -/
theorem bracketOpened_goes {q nxt : Seq} {clock : Clock} {r : BusRequest} {a : Answer} (hs : s.seq = q)
    (hr : requests q = true) (hm : (q, nxt) ∈ moves) (hn : nxt ≠ .idle) :
    OpensBracket r s (bracketOpened clock nxt r a s) ∨
      Goes p s (bracketOpened clock nxt r a s) ∧ Quiet s (bracketOpened clock nxt r a s) := by
  rcases bracketOpened_cases clock nxt r a s with ⟨hget, ht⟩ | ⟨-, ht⟩ <;> rw [ht]
  · exact .inl ⟨hget, hs ▸ hr, clock, a.hz, rfl⟩
  · exact .inr (goes_on nxt hs hm rfl hn rfl rfl)

/-- The return of an identification. -/
theorem identReturned_goes (hq : s.seq = .idExit) :
    Goes p s (identReturned p s) ∧ Quiet s (identReturned p s) := by
  rcases identReturned_cases p s with ⟨-, ht⟩ | ⟨hc, ht⟩ | ⟨-, ⟨-, ht⟩ | ⟨-, ht⟩⟩ <;> rw [ht]
  · exact endWith_goes 0 hq (by decide)
  · rcases attemptReturned_cases s with ht | ⟨-, ht⟩ | ⟨h0, ht⟩ <;> rw [ht]
    · exact ⟨.on .bgDone hq rfl (by decide) (.inl rfl), quiet_of_going rfl nofun⟩
    · exact ⟨.on .bgDone hq rfl (by decide) (.inl rfl), quiet_of_going rfl nofun⟩
    · exact ⟨.again hq rfl hc rfl h0, quiet_of_going rfl nofun⟩
  · rcases afterEnsure_cases p with ha | ha <;> rw [ha]
    · exact goes_on .wrMutate hq (by decide) rfl nofun rfl rfl
    · exact goes_on .wrClk hq (by decide) rfl nofun rfl rfl
  · exact endFail_goes _ hq (by decide)

/-- The end of a block write. -/
theorem writeFinished_goes (hplan : IsPlan p) (hq : s.seq = .wrExit) :
    Goes p s (writeFinished p.commit s) ∧ Quiet s (writeFinished p.commit s) := by
  obtain ⟨fa, hf⟩ := hplan.commit
  rcases writeFinished_cases p.commit s with ht | ht <;> rw [ht]
  · rw [hf]
    exact ⟨.on .idle hq rfl (by decide) (.inr rfl), rfl, rfl, rfl, rfl, (Bool.and_false _).symm⟩
  · exact ⟨.on .idle hq rfl (by decide) (.inr rfl), rfl, rfl, rfl, rfl, (Bool.and_false _).symm⟩

/-- An answered request leads on, but for `ClkGet`. -/
theorem respond_goes {r : BusRequest} {a : Answer} (hplan : IsPlan p) (h : requests s.seq = true) :
    OpensBracket r s (respond p r a s) ∨ Goes p s (respond p r a s) ∧ Quiet s (respond p r a s) := by
  cases hq : s.seq
  case idle | idCheck | bgInit | bgDone | wrEnsure | wrMutate | plValidate | plPublish | cq =>
    simp only [hq, requests, Bool.false_eq_true] at h
  case idClk | wrClk | plClk =>
    simp only [respond, hq]
    exact bracketOpened_goes hq (by decide) (by decide) nofun
  all_goals
    simp only [respond, hq]
    refine .inr ?_
  case idRead => exact goes_on .idCheck hq (by decide) rfl nofun rfl rfl
  case bgDelay => exact goes_on .idClk hq (by decide) rfl nofun rfl rfl
  case idExit => exact identReturned_goes hq
  case wrWrite =>
    obtain ⟨c, ht⟩ := blockWritten_cases (a := a) hq
    rw [ht]
    exact goes_on .wrExit hq (by decide) rfl nofun rfl rfl
  case wrExit => exact writeFinished_goes hplan hq
  case plStatus =>
    rcases statusRead_cases (a := a) hq with ⟨b, -, ht | ht⟩ | ht <;> rw [ht]
    · exact goes_on .plBtnack hq (by decide) rfl nofun rfl rfl
    · exact goes_on .plRefresh hq (by decide) rfl nofun rfl rfl
    · exact goes_on .plExit hq (by decide) rfl nofun rfl rfl
  case plBtnack =>
    rcases buttonAcked_cases (a := a) hq with ht | ht <;> rw [ht]
    · exact goes_on .plRefresh hq (by decide) rfl nofun rfl rfl
    · exact goes_on .plExit hq (by decide) rfl nofun rfl rfl
  case plRefresh =>
    rcases refreshRead_cases (a := a) hq with ⟨b, -, ⟨-, ht⟩ | ht⟩ | ht <;> rw [ht]
    · exact goes_on .plOverview hq (by decide) rfl nofun rfl rfl
    · exact goes_on .plExit hq (by decide) rfl nofun rfl rfl
    · exact goes_on .plExit hq (by decide) rfl nofun rfl rfl
  case plOverview =>
    rcases overviewRead_cases (a := a) hq with ⟨b, -, -, ht⟩ | ⟨-, ht⟩ <;> rw [ht]
    · exact ⟨.pixels hq rfl rfl, quiet_of_going rfl nofun⟩
    · exact goes_on .plExit hq (by decide) rfl nofun rfl rfl
  case plPixel =>
    rcases chunkRead_cases (a := a) hq with ⟨b, -, -, ⟨hk, ht⟩ | ⟨-, ht | ht⟩⟩ | ⟨-, ht⟩ <;> rw [ht]
    · exact ⟨.chunk hq hq hk rfl, quiet_of_going rfl (by simp [hq])⟩
    · exact goes_on .plAck hq (by decide) rfl nofun rfl rfl
    · exact goes_on .plValidate hq (by decide) rfl nofun rfl rfl
    · exact goes_on .plExit hq (by decide) rfl nofun rfl rfl
  case plAck =>
    rcases frameAcked_cases (a := a) hq with ht | ht <;> rw [ht]
    · exact goes_on .plValidate hq (by decide) rfl nofun rfl rfl
    · exact goes_on .plExit hq (by decide) rfl nofun rfl rfl
  case plExit => exact endWith_goes 0 hq (by decide)

/-- An answer in a state that waits for none is dropped. -/
theorem respond_of_not_requests {r : BusRequest} {a : Answer} (h : requests s.seq = false) : respond p r a s = s := by
  cases hq : s.seq
  case idle | idCheck | bgInit | bgDone | wrEnsure | wrMutate | plValidate | plPublish | cq => simp only [respond, hq]
  all_goals simp only [hq, requests, Bool.true_eq_false] at h

end

/-! One step of the sequencer -/

/-- The state when the answer `a` to `r` has been taken (20_memory.md R60). -/
def answeredWith (r : BusRequest) (a : Answer) (rest : List Event) (s : State) : State :=
  settle r a { s with env := rest }

/-- What one step of the sequencer can be: a request issued; a state without a request passed; the second request of an
opening bracket; the state left after its answer; or an answer dropped by a state that waits for none. -/
inductive Stepped (p : Plan) (s t : State) : Prop
  | issued (hq : requests s.seq = true) (hp : s.pending = none) (r : BusRequest) (ht : t = issue r s)
      (hl : listedAccess r = true)
  | passed (hp : s.pending = none) (hg : Goes p s t) (hk : Quiet s t)
  | opened {a : Answer} {rest : List Event} (hq : requests s.seq = true) (hp : s.pending = some .clkGet)
      (he : s.env = .answer a :: rest) (clock saved : Clock)
      (ht : t = issue (.clkSet clock) { answeredWith .clkGet a rest s with savedClock := saved })
  | left {r : BusRequest} {a : Answer} {rest : List Event} (hp : s.pending = some r) (he : s.env = .answer a :: rest)
      (hg : Goes p (answeredWith r a rest s) t) (hk : Quiet (answeredWith r a rest s) t)
  | dropped {r : BusRequest} {a : Answer} {rest : List Event} (hq : requests s.seq = false) (hp : s.pending = some r)
      (he : s.env = .answer a :: rest) (ht : t = answeredWith r a rest s)

/-- Every step of the sequencer is one of these. -/
theorem stepped_of_seqStep {p : Plan} {s t : State} (hplan : IsPlan p) (h : seqStep p s = some t) :
    s.seq ≠ .idle ∧ Stepped p s t := by
  obtain ⟨hs, hcases⟩ := seqStep_cases h
  refine ⟨hs, ?_⟩
  rcases hcases with ⟨hp, rfl⟩ | ⟨r, a, rest, hp, he, rfl⟩
  · cases hq : requests s.seq with
    | true =>
      obtain ⟨r, ht, -, hl⟩ := advance_request p hq
      exact .issued hq hp r ht hl
    | false =>
      obtain ⟨hg, hk⟩ := advance_goes hplan hs hq
      exact .passed hp hg hk
  · cases hq : requests s.seq with
    | true =>
      rcases respond_goes (s := answeredWith r a rest s) (r := r) (a := a) hplan hq with ⟨hr, -, clock, saved, ht⟩ | hg
      · subst hr
        exact .opened hq hp he clock saved ht
      · exact .left hp he hg.1 hg.2
    | false => exact .dropped hq hp he (respond_of_not_requests (s := answeredWith r a rest s) hq)

end Sys2Proof.Machine
end

section
/-!
PROOFS. Every run of the sequencer ends: a number that falls with each of its steps, below the bound of a run, so that a
command ends at IDLE or waits for an answer (10_state.md R40, 20_memory.md R60).
-/

namespace Sys2Proof.Machine

/-! The measure -/

/-- How far a sequencer state is from IDLE; an operation goes downwards, but for the pixel loop and the attempts of
`BEGIN`, which `loops` counts. -/
def distance : Seq → Nat
  | .idle => 0
  | .cq | .bgDone | .wrExit | .plExit => 3
  | .wrWrite | .plPublish => 6
  | .wrClk | .plValidate => 9
  | .wrMutate | .plAck => 12
  | .idExit | .plPixel => 15
  | .idCheck => 18
  | .idRead => 21
  | .idClk => 24
  | .wrEnsure | .bgDelay => 27
  | .plOverview => 33
  | .plRefresh => 36
  | .plBtnack => 39
  | .plStatus => 42
  | .plClk => 45
  | .bgInit => 492

/-- The states in which an attempt is still to be made or to be counted. -/
def countsAttempts : Seq → Bool
  | .idClk | .idRead | .idCheck | .idExit | .bgDelay | .wrEnsure => true
  | _ => false

/-- What the attempts and the chunks that remain add (42_identify.md R176, 44_poll.md R238). -/
def loops (s : State) : Nat :=
  if countsAttempts s.seq then 15 * s.retry.toNat else if s.seq = .plPixel then 3 * (5 - s.chunk.val) else 0

/-- The steps left in a state: in one with a request to issue it and to be answered, twice at the opening of a
bracket. -/
def stepsHere (s : State) : Nat :=
  match requests s.seq, s.pending with
  | false, none => 1
  | false, some _ => 2
  | true, none => 3
  | true, some .clkGet => 2
  | true, some _ => 1

/-- The number that falls with every sequencer step. -/
def rank (s : State) : Nat := distance s.seq + loops s + stepsHere s

/-- Every state has at least one step left and at most three. -/
theorem stepsHere_bounds (s : State) : 1 ≤ stepsHere s ∧ stepsHere s ≤ 3 := by
  unfold stepsHere
  split <;> decide

/-- The measure never exceeds the bound of a run (notes/assumptions/15.md). -/
theorem rank_le_fuel (s : State) : rank s ≤ fuel := by
  have hretry := s.retry.isLt
  have hsteps := stepsHere_bounds s
  have hplace : distance s.seq + loops s ≤ 492 := by
    cases hq : s.seq <;> simp only [loops, distance, countsAttempts, hq, if_true, if_false, Bool.false_eq_true,
      reduceCtorEq] <;> omega
  rw [rank, fuel]
  omega

/-! It falls -/

/-- While the retry loop runs an attempt one remains; it never asks for mirrors as a writer does (42_identify.md
R176). -/
def AttemptsLeft (p : Plan) (s : State) : Prop :=
  p.caller = .retryLoop → s.seq ≠ .wrEnsure ∧ (s.seq ∈ Seq.bgDelay :: identStates → s.retry ≠ 0)

/-- A plain move goes down by more steps than its end can take. -/
theorem moves_down {q q' : Seq} (h : (q, q') ∈ moves) : distance q' + (if requests q' then 3 else 1) ≤ distance q :=
  (by decide : ∀ m ∈ moves, distance m.2 + (if requests m.2 then 3 else 1) ≤ distance m.1) (q, q') h

/-- A plain move enters no loop; it stays in an attempt only where it keeps what is counted. -/
theorem moves_loops {q q' : Seq} (h : (q, q') ∈ moves) :
    (countsAttempts q' = true → countsAttempts q = true ∧ q' ≠ .bgDone) ∧ q' ≠ .plPixel ∧ q' ≠ .wrEnsure ∧
      (q' ∈ Seq.bgDelay :: identStates → q ∈ Seq.bgDelay :: identStates ∧ q' ≠ .bgDone) :=
  (by decide : ∀ m ∈ moves, (countsAttempts m.2 = true → countsAttempts m.1 = true ∧ m.2 ≠ .bgDone) ∧
    m.2 ≠ .plPixel ∧ m.2 ≠ .wrEnsure ∧
      (m.2 ∈ Seq.bgDelay :: identStates → m.1 ∈ Seq.bgDelay :: identStates ∧ m.2 ≠ .bgDone)) (q, q') h

/-- The steps left in a state entered with no request outstanding. -/
theorem stepsHere_of_none {s : State} (hp : s.pending = none) :
    stepsHere s = if requests s.seq then 3 else 1 := by
  cases hq : requests s.seq <;> simp [stepsHere, hp, hq]

/-- A plain move leaves no more attempts and chunks than before. -/
theorem loops_le_of_move {s t : State} {q q' : Seq} (hs : s.seq = q) (ht : t.seq = q') (hm : (q, q') ∈ moves)
    (hr : q' = .bgDone ∨ t.retry = s.retry) : loops t ≤ loops s := by
  obtain ⟨hcount, hpixel, -, -⟩ := moves_loops hm
  cases hc : countsAttempts q' with
  | false => simp [loops, ht, hc, hpixel]
  | true =>
    obtain ⟨hc', hdone⟩ := hcount hc
    simp [loops, hs, ht, hc, hc', hr.resolve_left hdone]

/-- Wherever the sequencer goes, fewer steps are left than in the state it leaves. -/
theorem rank_le_of_goes {p : Plan} {s t : State} (ha : AttemptsLeft p s) (hg : Goes p s t) (hp : t.pending = none) :
    rank t ≤ distance s.seq + loops s := by
  rw [rank, stepsHere_of_none hp]
  cases hg with
  | on q' hs ht hm hr =>
    have hdown := moves_down hm
    have hloops := loops_le_of_move hs ht hm hr
    rw [hs, ht]
    omega
  | begins hs ht hr =>
    have hretry := t.retry.isLt
    simp only [loops, distance, requests, countsAttempts, hs, ht, if_true, if_false, Bool.false_eq_true, reduceCtorEq]
    omega
  | ensures hs ht hr =>
    simp only [loops, distance, requests, countsAttempts, hs, ht, hr, if_true]
    omega
  | again hs ht hc hr h0 =>
    have hlive : s.retry ≠ 0 := (ha hc).2 (by rw [hs]; decide)
    have hcount : t.retry.toNat + 1 = s.retry.toNat := by
      rw [hr]
      bv_omega
    simp only [loops, distance, requests, countsAttempts, hs, ht, if_true]
    omega
  | pixels hs ht hk => simp [loops, distance, requests, countsAttempts, hs, ht, hk]
  | chunk hs ht hlt hk =>
    have hcount : t.chunk.val = s.chunk.val + 1 := by
      rw [hk, Fin.val_add_one_of_lt' (by omega)]
    simp only [loops, distance, requests, countsAttempts, hs, ht, if_true, if_false, Bool.false_eq_true]
    omega

/-- Attempts are counted wherever the sequencer goes. -/
theorem attemptsLeft_of_goes {p : Plan} {s t : State} (ha : AttemptsLeft p s) (hg : Goes p s t) :
    AttemptsLeft p t := by
  intro hcaller
  obtain ⟨hens, hlive⟩ := ha hcaller
  cases hg with
  | on q' hs ht hm hr =>
    obtain ⟨-, -, hq', hcount⟩ := moves_loops hm
    refine ⟨ht ▸ hq', fun hi => ?_⟩
    obtain ⟨hq, hdone⟩ := hcount (ht ▸ hi)
    rw [hr.resolve_left hdone]
    exact hlive (hs ▸ hq)
  | begins hs ht hr => exact ⟨by simp [ht], fun _ => hr hcaller⟩
  | ensures hs ht hr => exact absurd hs hens
  | again hs ht hc hr h0 => exact ⟨by simp [ht], fun _ => h0⟩
  | pixels hs ht hk => exact ⟨by simp [ht], fun hi => absurd hi (by rw [ht]; decide)⟩
  | chunk hs ht hlt hk => exact ⟨by simp [ht], fun hi => absurd hi (by rw [ht]; decide)⟩

/-- A step within a state. -/
theorem rank_lt_of_stepsHere {s t : State} (hq : t.seq = s.seq) (hl : loops t = loops s)
    (h : stepsHere t < stepsHere s) : rank t < rank s := by
  rw [rank, rank, hq, hl]
  omega

/-- A step that leaves the state of `s`, its answer taken in `s'`. -/
theorem rank_lt_of_goes {p : Plan} {s s' t : State} (hq : s'.seq = s.seq) (hl : loops s' = loops s)
    (ha : AttemptsLeft p s') (hg : Goes p s' t) (hp : t.pending = none) : rank t < rank s := by
  have hsteps := stepsHere_bounds s
  calc rank t ≤ distance s'.seq + loops s' := rank_le_of_goes ha hg hp
    _ = distance s.seq + loops s := by rw [hq, hl]
    _ < rank s := by
      rw [rank]
      omega

/-- Every step of the sequencer brings it nearer to IDLE. -/
theorem rank_lt_of_seqStep {p : Plan} {s t : State} (hplan : IsPlan p) (ha : AttemptsLeft p s)
    (h : seqStep p s = some t) : rank t < rank s := by
  cases (stepped_of_seqStep hplan h).2 with
  | issued hq hp r ht =>
    subst ht
    refine rank_lt_of_stepsHere rfl rfl ?_
    cases r <;> simp [stepsHere, hq, hp]
  | passed hp hg hk => exact rank_lt_of_goes rfl rfl ha hg (hk.pending.trans hp)
  | opened hq hp he clock saved ht =>
    subst ht
    exact rank_lt_of_stepsHere rfl rfl (by simp [stepsHere, hq, hp, answeredWith])
  | left hp he hg hk => exact rank_lt_of_goes (by rfl) (by rfl) (by exact ha) hg hk.pending
  | dropped hq hp he ht =>
    subst ht
    exact rank_lt_of_stepsHere rfl rfl (by simp [stepsHere, hq, hp, answeredWith])

/-- Attempts stay counted. -/
theorem attemptsLeft_of_seqStep {p : Plan} {s t : State} (hplan : IsPlan p) (ha : AttemptsLeft p s)
    (h : seqStep p s = some t) : AttemptsLeft p t := by
  cases (stepped_of_seqStep hplan h).2 with
  | issued hq hp r ht => exact ht ▸ ha
  | passed hp hg hk => exact attemptsLeft_of_goes ha hg
  | opened hq hp he clock saved ht => exact ht ▸ ha
  | left hp he hg hk => exact attemptsLeft_of_goes (by exact ha) hg
  | dropped hq hp he ht => exact ht ▸ ha

/-- A run ends at IDLE or waits. -/
theorem run_ends {p : Plan} {s : State} (hplan : IsPlan p) (ha : AttemptsLeft p s) (n : Nat) (hn : rank s ≤ n) :
    seqStep p (run p n s) = none :=
  run_quiet_of (P := AttemptsLeft p) (fun _ _ => attemptsLeft_of_seqStep hplan) rank
    (fun _ _ => rank_lt_of_seqStep hplan) n s ha hn

/-- A run that takes no step is settled. -/
theorem settled_of_seqStep_none {p : Plan} {s : State} (h : seqStep p s = none) : Settled s := by
  rcases seqStep_eq_none h with hq | ⟨⟨r, hr⟩, -⟩
  · exact .inl hq
  · exact .inr (by simp [hr])

/-! Commands -/

/-- `busy` is 1 exactly away from IDLE, where no request is outstanding (10_state.md R34, R40). -/
def BusyAway (s : State) : Prop := s.busy = decide (s.seq ≠ .idle) ∧ (s.seq = .idle → s.pending = none)

/-- Every step of the sequencer keeps that. -/
theorem busyAway_of_seqStep {p : Plan} {s t : State} (hplan : IsPlan p) (hb : BusyAway s)
    (h : seqStep p s = some t) : BusyAway t := by
  obtain ⟨hs, hstep⟩ := stepped_of_seqStep hplan h
  have hbusy : s.busy = true := hb.1.trans (decide_eq_true hs)
  cases hstep with
  | issued hq hp r ht => exact ht ▸ ⟨hb.1, fun hi => absurd hi hs⟩
  | passed hp hg hk => exact ⟨by rw [hk.busy, hbusy, Bool.true_and], fun _ => hk.pending.trans hp⟩
  | opened hq hp he clock saved ht => exact ht ▸ ⟨hb.1, fun hi => absurd hi hs⟩
  | left hp he hg hk =>
    exact ⟨by rw [hk.busy]; exact (congrArg (· && _) hbusy).trans (Bool.true_and _), fun _ => hk.pending⟩
  | dropped hq hp he ht => exact ht ▸ ⟨hb.1, fun hi => absurd hi hs⟩

/-- The first state of a command counts its attempts. -/
theorem attemptsLeft_first {p : Plan} {s : State} (hplan : IsPlan p) (hq : s.seq = p.first) : AttemptsLeft p s := by
  intro hc
  rw [hq, hplan.first.2 hc]
  exact ⟨nofun, fun hi => absurd hi (by decide)⟩

/-- Settles O22: a refused command is at IDLE; an accepted one runs, within the bound, until it is there or waits. -/
theorem commandEndsOrWaits : Obligations.CommandEndsOrWaits := by
  intro i s t hcommand hready ht
  obtain ⟨p, hp, hexec⟩ := exec_command s hcommand
  obtain rfl := Host.Outcome.next.inj (hexec.symm.trans ht)
  have hplan := isPlan_of_planOf hp
  cases hc : p.check s with
  | some c =>
    rw [command_refused hready hc]
    exact .inl ⟨rfl, rfl, hready.pending⟩
  | none =>
    rw [command_runs hready.busy hc]
    have hends := run_ends hplan (attemptsLeft_first
      (s := { s with cur := encodeCommand i, busy := true, seq := p.first }) hplan rfl) fuel (rank_le_fuel _)
    obtain ⟨hbusy, hpending⟩ := run_keeps (P := BusyAway) (fun _ _ => busyAway_of_seqStep hplan) fuel
      { s with cur := encodeCommand i, busy := true, seq := p.first }
      ⟨(decide_eq_true hplan.first.1).symm, fun hi => absurd hi hplan.first.1⟩
    rcases seqStep_eq_none hends with hq | ⟨⟨r, hr⟩, henv⟩
    · exact .inl ⟨by rw [hbusy, hq]; rfl, hq, hpending hq⟩
    · have haway : (run p fuel { s with cur := encodeCommand i, busy := true, seq := p.first }).seq ≠ .idle :=
        fun hq => by simp [hpending hq] at hr
      exact .inr ⟨hbusy.trans (decide_eq_true haway), by simp [hr], henv⟩

end Sys2Proof.Machine
end

section
/-!
PROOFS. What a step consumes and what it issues: events from the head of the list, one for each answer and each word
(20_memory.md R60), and requests of the access table only, appended to the log (20_memory.md R73). Both hold of every
state.
-/

namespace Sys2Proof.Machine

/-! Requests -/

/-- From `s` to `t` listed requests have been issued and nothing else has been logged. -/
def Issues (s t : State) : Prop := ∃ new, t.busLog = s.busLog ++ new ∧ ∀ r ∈ new, listedAccess r = true

/-- A step with the same log. -/
theorem issues_of_eq {s t : State} (h : t.busLog = s.busLog) : Issues s t :=
  ⟨[], by rw [h, List.append_nil], fun _ hr => absurd hr List.not_mem_nil⟩

/-- One listed request. -/
theorem issues_one {s t : State} {r : BusRequest} (h : t.busLog = s.busLog ++ [r]) (hr : listedAccess r = true) :
    Issues s t :=
  ⟨[r], h, fun _ hm => List.mem_singleton.mp hm ▸ hr⟩

/-- Two stretches after each other. -/
theorem Issues.trans {s t u : State} (hst : Issues s t) (htu : Issues t u) : Issues s u := by
  obtain ⟨new, hnew, hlisted⟩ := hst
  obtain ⟨more, hmore, hlisted'⟩ := htu
  refine ⟨new ++ more, by rw [hmore, hnew, List.append_assoc], fun r hr => ?_⟩
  rcases List.mem_append.mp hr with hr | hr
  · exact hlisted r hr
  · exact hlisted' r hr

/-- A step of the sequencer issues listed requests. -/
theorem issues_of_seqStep {p : Plan} {s t : State} (hplan : IsPlan p) (h : seqStep p s = some t) : Issues s t := by
  cases (stepped_of_seqStep hplan h).2 with
  | issued hq hp r ht hl => exact issues_one (ht ▸ rfl) hl
  | passed hp hg hk => exact issues_of_eq hk.busLog
  | opened hq hp he clock saved ht =>
    subst ht
    exact issues_one rfl rfl
  | left hp he hg hk => exact issues_of_eq hk.busLog
  | dropped hq hp he ht => exact issues_of_eq (ht ▸ rfl)

/-- So does a run of it. -/
theorem issues_run {p : Plan} (hplan : IsPlan p) (n : Nat) (s : State) : Issues s (run p n s) :=
  run_keeps (P := Issues s) (fun _ _ h hstep => h.trans (issues_of_seqStep hplan hstep)) n s (issues_of_eq rfl)

/-! Events -/

/-- From `s` to `t` events have been taken off the head of the list and nothing else has happened to it. -/
def Consumes (s t : State) : Prop := ∃ k, t.env = s.env.drop k

/-- A step of the sequencer takes the answer it waits for, if it waits. -/
theorem env_of_seqStep {p : Plan} {s t : State} (hplan : IsPlan p) (h : seqStep p s = some t) :
    s.pending = none ∧ t.env = s.env ∨ s.pending ≠ none ∧ ∃ a, s.env = .answer a :: t.env := by
  cases (stepped_of_seqStep hplan h).2 with
  | issued hq hp r ht hl => exact .inl ⟨hp, ht ▸ rfl⟩
  | passed hp hg hk => exact .inl ⟨hp, hk.env⟩
  | @opened a rest hq hp he clock saved ht => exact .inr ⟨by simp [hp], a, ht ▸ he⟩
  | @left r a rest hp he hg hk => exact .inr ⟨by simp [hp], a, by rw [hk.env]; exact he⟩
  | @dropped r a rest hq hp he ht => exact .inr ⟨by simp [hp], a, ht ▸ he⟩

/-- A step of the sequencer consumes events from the head only. -/
theorem Consumes.seqStep {p : Plan} {s t u : State} (hplan : IsPlan p) (hst : Consumes s t)
    (h : seqStep p t = some u) : Consumes s u := by
  obtain ⟨k, hk⟩ := hst
  rcases env_of_seqStep hplan h with ⟨-, he⟩ | ⟨-, a, he⟩
  · exact ⟨k, he.trans hk⟩
  · refine ⟨k + 1, ?_⟩
    rw [← List.tail_drop, ← hk, he]
    rfl

/-- So does a run of it. -/
theorem consumes_run {p : Plan} (hplan : IsPlan p) (n : Nat) (s : State) : Consumes s (run p n s) :=
  run_keeps (P := Consumes s) (fun _ _ h hstep => h.seqStep hplan hstep) n s ⟨0, rfl⟩

/-- A run that starts with a request outstanding takes the answer first. -/
theorem consumes_run_of_pending {p : Plan} {s : State} {a : Answer} {rest : List Event} (hplan : IsPlan p) (n : Nat)
    (hq : s.seq ≠ .idle) (hp : s.pending ≠ none) (he : s.env = .answer a :: rest) :
    ∃ k, (run p (n + 1) s).env = rest.drop k := by
  obtain ⟨r, hr⟩ := Option.ne_none_iff_exists'.mp hp
  obtain ⟨t, ht⟩ : ∃ t, seqStep p s = some t := ⟨_, seqStep_respond hq hr he⟩
  rcases env_of_seqStep hplan ht with ⟨hnone, -⟩ | ⟨-, b, hb⟩
  · exact absurd hnone hp
  · obtain ⟨k, hk⟩ := consumes_run hplan n t
    obtain ⟨-, rfl⟩ := List.cons.inj (he.symm.trans hb)
    exact ⟨k, by rw [run_step n ht, hk]⟩

/-! A whole step -/

/-- The failure exit issues nothing and takes no event. -/
theorem raiseFail_frame (c : Cause) (s : State) :
    (raiseFail c s).busLog = s.busLog ∧ (raiseFail c s).env = s.env := by
  unfold raiseFail
  split <;> exact ⟨rfl, rfl⟩

/-- Nor does the acceptance of a command. -/
theorem accept_frame (i : Instr) (p : Plan) (s : State) :
    (accept i p s).busLog = s.busLog ∧ (accept i p s).env = s.env := by
  unfold accept
  split
  case h_1 => exact raiseFail_frame _ _
  case h_2 => exact ⟨rfl, rfl⟩

/-- What an instruction can do: a query answers, a command is not accepted, or it is accepted and run. -/
theorem exec_cases {i : Instr} {s t : State} (h : exec i s = .next t) :
    (∃ v, i.isCommand = false ∧ t = answered v s) ∨ (i.isCommand = true ∧ s.busy = true ∧ t = s) ∨
      ∃ p, planOf i = some p ∧ s.busy = false ∧ t = run p fuel (accept i p s) := by
  cases hi : i.isCommand with
  | false => exact .inl ⟨_, rfl, Host.Outcome.next.inj (h.symm.trans (exec_query s hi))⟩
  | true =>
    obtain ⟨p, hp, hexec⟩ := exec_command s hi
    obtain rfl := Host.Outcome.next.inj (hexec.symm.trans h)
    cases hb : s.busy with
    | true => exact .inr (.inl ⟨rfl, rfl, command_busy hb⟩)
    | false => exact .inr (.inr ⟨p, hp, rfl, by simp only [command, hb, Bool.false_eq_true, if_false]⟩)

/-- The plan of a word is that of its command. -/
theorem planOfWord_eq_some {w : CommandWord} {p : Plan} :
    planOfWord w = some p ↔ ∃ i, decodeCommand w = .ok i ∧ planOf i = some p := by
  unfold planOfWord
  cases decodeCommand w <;> simp

/-- The plan that an answer resumes is one. -/
theorem isPlan_of_planOfWord {w : CommandWord} {p : Plan} (h : planOfWord w = some p) : IsPlan p := by
  obtain ⟨i, -, hp⟩ := planOfWord_eq_some.mp h
  exact isPlan_of_planOf hp

/-- An illegal word issues nothing and takes no event. -/
theorem illegalWord_frame (w : PortWord) (s : State) :
    (illegalWord w s).busLog = s.busLog ∧ (illegalWord w s).env = s.env := by
  cases w with
  | query q => exact ⟨rfl, rfl⟩
  | command w => cases hb : s.busy <;> simp [illegalWord, hb]

/-- What an instruction issues. -/
theorem issues_exec {i : Instr} {s t : State} (h : exec i s = .next t) : Issues s t := by
  rcases exec_cases h with ⟨v, -, rfl⟩ | ⟨-, -, rfl⟩ | ⟨p, hp, -, rfl⟩
  · exact issues_of_eq rfl
  · exact issues_of_eq rfl
  · exact (issues_of_eq (accept_frame i p s).1).trans (issues_run (isPlan_of_planOf hp) fuel _)

/-- What an instruction consumes. -/
theorem consumes_exec {i : Instr} {s t : State} (h : exec i s = .next t) : Consumes s t := by
  rcases exec_cases h with ⟨v, -, rfl⟩ | ⟨-, -, rfl⟩ | ⟨p, hp, -, rfl⟩
  · exact ⟨0, rfl⟩
  · exact ⟨0, rfl⟩
  · obtain ⟨k, hk⟩ := consumes_run (isPlan_of_planOf hp) fuel (accept i p s)
    exact ⟨k, by rw [hk, (accept_frame i p s).2]⟩

/-- Settles O56: every kind of step issues listed requests only. -/
theorem onlyListedAccesses : Obligations.OnlyListedAccesses := by
  intro s t h
  change Issues s t
  rcases step_cases h with ⟨-, rfl⟩ | ⟨w, i, rest, -, -, hexec⟩ | ⟨w, e, rest, -, -, rfl⟩ | ⟨a, rest, -, -, rfl⟩ |
    ⟨a, rest, p, -, -, hp, rfl⟩ | ⟨rest, -, rfl⟩
  · exact issues_of_eq rfl
  · have hissues := issues_exec hexec
    exact hissues
  · exact issues_of_eq (illegalWord_frame w _).1
  · exact issues_of_eq rfl
  · exact issues_run (isPlan_of_planOfWord hp) fuel s
  · exact issues_of_eq rfl

/-- Settles O21: a word, a dropped answer and a reset are taken off; a resumed command takes its answer first. -/
theorem stepConsumesEvents : Obligations.StepConsumesEvents := by
  intro s t hsettled h
  rcases step_cases h with ⟨he, rfl⟩ | ⟨w, i, rest, he, -, hexec⟩ | ⟨w, e, rest, he, -, rfl⟩ | ⟨a, rest, he, -, rfl⟩ |
    ⟨a, rest, p, he, hq, hp, rfl⟩ | ⟨rest, he, rfl⟩
  · exact ⟨0, rfl, fun hne => absurd he hne⟩
  · obtain ⟨k, hk⟩ := consumes_exec hexec
    exact ⟨k + 1, by rw [he, hk]; rfl, fun _ => k.succ_pos⟩
  · exact ⟨1, by rw [he, (illegalWord_frame w _).2]; rfl, fun _ => Nat.one_pos⟩
  · exact ⟨1, by rw [he]; rfl, fun _ => Nat.one_pos⟩
  · obtain ⟨k, hk⟩ := consumes_run_of_pending (isPlan_of_planOfWord hp) 511 hq (hsettled.resolve_left hq) he
    exact ⟨k + 1, by rw [he]; exact hk, fun _ => k.succ_pos⟩
  · exact ⟨1, by rw [he]; rfl, fun _ => Nat.one_pos⟩

end Sys2Proof.Machine
end

section
/-!
PROOFS. The query port stands apart from the sequencer: no step of a command reads or writes it, so a query that arrives
before an answer changes nothing of what the answer brings about (45_accessors.md R270).
-/

namespace Sys2Proof.Machine

section
variable {p : Plan} {s : State} (v : Bool) (d : BitVec 32)

/-! The shared operations on a state whose query port has answered -/

theorem raiseFail_reply (c : Cause) (s : State) : raiseFail c (reply v d s) = reply v d (raiseFail c s) := by
  unfold raiseFail
  rw [reply_seq]
  split <;> rfl

theorem endWith_reply (w : BitVec 32) (s : State) : endWith w (reply v d s) = reply v d (endWith w s) := by
  unfold endWith
  rw [reply_outcome]
  split <;> rfl

theorem identCheck_reply (s : State) : identCheck (reply v d s) = reply v d (identCheck s) := by
  unfold identCheck
  rw [reply_snap]
  split
  case h_1 => exact raiseFail_reply v d _ { s with ident := false }
  case h_2 =>
    split
    case isTrue => rfl
    case isFalse => exact raiseFail_reply v d _ { s with ident := false }

theorem validateFrame_reply (s : State) : validateFrame (reply v d s) = reply v d (validateFrame s) := by
  unfold validateFrame
  rw [reply_cf, reply_stg]
  split
  case isTrue => exact raiseFail_reply v d _ _
  case isFalse => rfl

theorem identReturned_reply (s : State) : identReturned p (reply v d s) = reply v d (identReturned p s) := by
  unfold identReturned attemptReturned
  rw [reply_outcome]
  split
  case h_1 => exact endWith_reply v d 0 s
  case h_2 | h_3 => split <;> rfl

theorem writeFinished_reply (hplan : IsPlan p) (s : State) :
    writeFinished p.commit (reply v d s) = reply v d (writeFinished p.commit s) := by
  obtain ⟨fa, hf⟩ := hplan.commit
  unfold writeFinished
  rw [reply_outcome]
  split
  case isTrue =>
    rw [hf, hf]
    rfl
  case isFalse => rfl

/-- Going on commutes with an answer on the query port. -/
theorem advance_reply (hplan : IsPlan p) (s : State) : advance p (reply v d s) = reply v d (advance p s) := by
  unfold advance
  rw [reply_seq]
  split
  case h_4 => exact identCheck_reply v d s
  case h_6 =>
    rcases hplan.init with ⟨-, hi⟩ | ⟨a, hz, hi⟩ <;> rw [hi, hi] <;> rfl
  case h_8 => exact endWith_reply v d _ s
  case h_10 =>
    obtain ⟨fc, fl, fh, hf⟩ := hplan.update
    have hl := hf (reply v d s)
    have hr := hf s
    unfold mutated at hl hr
    rw [hl, hr]
    rfl
  case h_21 => exact validateFrame_reply v d s
  all_goals rfl

/-- Taking an answer commutes with it. -/
theorem respond_reply (hplan : IsPlan p) (r : BusRequest) (a : Answer) (s : State) :
    respond p r a (reply v d s) = reply v d (respond p r a s) := by
  unfold respond
  rw [reply_seq]
  cases s.seq
  case idClk | wrClk | plClk => cases r <;> rfl
  case idExit => exact identReturned_reply v d s
  case wrExit => exact writeFinished_reply v d hplan s
  case plExit => exact endWith_reply v d 0 s
  case wrWrite | plBtnack | plAck =>
    simp only [blockWritten, buttonAcked, frameAcked]
    split
    case isTrue => rfl
    case isFalse => exact raiseFail_reply v d _ s
  case plStatus | plOverview =>
    simp only [statusRead, overviewRead]
    split
    case h_1 => exact raiseFail_reply v d _ s
    case h_2 => rfl
  case plRefresh =>
    simp only [refreshRead]
    split
    case h_1 => exact raiseFail_reply v d _ s
    case h_2 b _ =>
      split
      case isTrue => rfl
      case isFalse => exact raiseFail_reply v d _ { s with stg := { s.stg with refresh := b } }
  case plPixel =>
    simp only [chunkRead]
    split
    case h_1 => exact raiseFail_reply v d _ s
    case h_2 =>
      split
      case isTrue hhold =>
        rw [if_pos (show chunkHold s.chunk = true from hhold)]
        rfl
      case isFalse hhold =>
        rw [if_neg (show ¬ chunkHold s.chunk = true from hhold)]
        rfl
  all_goals rfl

/-- So does a step of the sequencer. -/
theorem seqStep_reply (hplan : IsPlan p) (s : State) : seqStep p (reply v d s) = (seqStep p s).map (reply v d) := by
  unfold seqStep
  rw [reply_seq, reply_pending, reply_env]
  split
  case isTrue => rfl
  case isFalse =>
    split
    case h_1 => exact congrArg some (advance_reply v d hplan s)
    case h_2 r _ =>
      split
      case h_1 a rest _ => exact congrArg some (respond_reply v d hplan r a (settle r a { s with env := rest }))
      case h_2 => rfl

/-- So does a run of it. -/
theorem run_reply (hplan : IsPlan p) (n : Nat) (s : State) : run p n (reply v d s) = reply v d (run p n s) := by
  induction n generalizing s with
  | zero => rfl
  | succ n ih =>
    cases h : seqStep p s with
    | none => rw [run_stop _ h, run_stop _ (by rw [seqStep_reply v d hplan, h]; rfl)]
    | some t => rw [run_step _ h, run_step (t := reply v d t) _ (by rw [seqStep_reply v d hplan, h]; rfl), ih]

end

/-- A query word, legal or not, is answered on the query port. -/
theorem step_query {s t : State} {q : QueryWord} {rest : List Event} (henv : s.env = .port (.query q) :: rest)
    (h : step s = .next t) : ∃ v d, t = reply v d { s with env := rest } := by
  cases hq : decodeQuery q with
  | ok i =>
    have hstep := step_of_decode_ok henv (w := .query q) hq
    rw [exec_query _ (encodeQuery_of_decodeQuery hq).1] at hstep
    exact ⟨_, _, Host.Outcome.next.inj (h.symm.trans hstep)⟩
  | error e => exact ⟨_, _, Host.Outcome.next.inj (h.symm.trans (step_of_decode_error henv (w := .query q) hq))⟩

/-- An answer while an operation runs resumes it. -/
theorem step_answer {s t : State} {a : Answer} {rest : List Event} (hq : s.seq ≠ .idle)
    (henv : s.env = .answer a :: rest) (h : step s = .next t) : ∃ p, planOfWord s.cur = some p ∧ t = run p fuel s := by
  rcases step_cases h with ⟨he, -⟩ | ⟨w, i, rest', he, -⟩ | ⟨w, e, rest', he, -⟩ | ⟨b, rest', -, hidle, -⟩ |
    ⟨b, rest', p, -, -, hp, ht⟩ | ⟨rest', he, -⟩
  case inr.inr.inr.inr.inl => exact ⟨p, hp, ht⟩
  case inr.inr.inr.inl => exact absurd hidle hq
  all_goals simp [he] at henv

/-- Settles O24: the run that the answer resumes commutes with the query's answer. -/
theorem queryDoesNotDisturbCommand : Obligations.QueryDoesNotDisturbCommand := by
  intro s s1 s2 t q a rest hinv hbusy henv h1 h2 ht
  have hq : s.seq ≠ .idle := hinv.busyIff.mp hbusy
  obtain ⟨v, d, rfl⟩ := step_query henv h1
  obtain ⟨p, hp, rfl⟩ := step_answer (by exact hq) (by rfl) h2
  obtain ⟨p', hp', rfl⟩ := step_answer (s := { s with env := .answer a :: rest }) hq rfl ht
  obtain rfl : p = p' := Option.some.inj (hp.symm.trans hp')
  rw [run_reply v d (isPlan_of_planOfWord hp)]
  rfl

end Sys2Proof.Machine
end

section
/-!
PROOFS. The invariant in two parts: the registers that outlive a command, and what a running command needs in the state
its sequencer is in (10_state.md R30, R34, R38, R40, R47, 60_exceptions.md R320, R321).
-/

namespace Sys2Proof.Machine

/-! The registers that outlive a command -/

/-- The registers whose consistency no command may break. -/
structure Standing where
  busAddr : BusAddr
  ident : Bool
  begun : Bool
  mirrorsLoaded : Bool
  id0 : Byte
  id1 : Byte
  framePresent : Bool
  lowest : Half
  highest : Half
  resOk : Bool
  resCause : Cause
  resValue : BitVec 32
  retry : BitVec 5

/-- Those registers of a state. -/
def standing (s : State) : Standing :=
  { busAddr := s.busAddr, ident := s.ident, begun := s.begun, mirrorsLoaded := s.mirrorsLoaded, id0 := s.st.id0,
    id1 := s.st.id1, framePresent := s.framePresent, lowest := s.frame.sum.lowest, highest := s.frame.sum.highest,
    resOk := s.resOk, resCause := s.resCause, resValue := s.resValue, retry := s.retry }

/-- They are consistent, whatever the sequencer does. -/
structure Sound (r : Standing) : Prop where
  address : 0x08 ≤ r.busAddr.toNat ∧ r.busAddr.toNat ≤ 0x77
  identLoaded : r.ident = true → r.mirrorsLoaded = true
  loaded : r.mirrorsLoaded = true → r.begun = true ∧ r.id0 = Config.id0Const ∧ r.id1 = Config.id1Const
  frameOk : r.framePresent = true → r.begun = true ∧ r.lowest < r.highest
  okCause : r.resOk = true → r.resCause = .none
  failValue : r.resOk = false → r.resValue = 0
  retryBound : r.retry.toNat ≤ 16

/-- The success exit writes a consistent result (60_exceptions.md R311). -/
theorem Sound.endOk {s : State} (h : Sound (standing s)) (v : BitVec 32) : Sound (standing (endOk v s)) :=
  ⟨h.address, h.identLoaded, h.loaded, h.frameOk, fun _ => rfl, nofun, h.retryBound⟩

/-- So does the failure exit (60_exceptions.md R310). -/
theorem Sound.endFail {s : State} (h : Sound (standing s)) (c : Cause) : Sound (standing (endFail c s)) :=
  ⟨h.address, h.identLoaded, h.loaded, h.frameOk, nofun, fun _ => rfl, h.retryBound⟩

/-- A dropped tracker asks for less (60_exceptions.md R320). -/
theorem Sound.dropped {s : State} (h : Sound (standing s)) : Sound (standing { s with ident := false }) :=
  ⟨h.address, nofun, h.loaded, h.frameOk, h.okCause, h.failValue, h.retryBound⟩

/-! What a running command needs -/

/-- An attempt of `BEGIN` runs while one remains (42_identify.md R176). -/
def Live (i : Instr) (retry : BitVec 5) : Prop := ∀ a hz, i = .beginSession a hz → retry ≠ 0

/-- What the sequencer state `q` of the command `i` requires of session, mirrors, tracker and attempts, `c` the result
its open bracket holds (60_exceptions.md R306, 44_poll.md R231, 43_config_writer.md R192, 42_identify.md R172, R176). -/
structure Admitted (i : Instr) (r : Standing) (c : Cause) (q : Seq) : Prop where
  session : q ≠ .bgInit → r.begun = true
  mirrors : q ∈ Seq.cq :: pollStates → r.mirrorsLoaded = true
  tracker : q ∈ afterEnsureStates → r.ident = true
  exit : q = .idExit → c = .none → r.ident = true
  attempts : q ∈ Seq.bgDelay :: identStates → Live i r.retry

/-- Staging up to the refresh control of a ready frame (10_state.md R38, 44_poll.md R236). -/
structure StagedRefresh (b : Staging) : Prop where
  status2 : b.status2.length = 2
  refresh : b.refresh.length = 2
  ready : frameReady (byteAt b.refresh 0) = true

/-- Staging of a complete frame (10_state.md R38). -/
structure StagedFrame (b : Staging) : Prop where
  refresh : StagedRefresh b
  overview : b.overview.length = 16
  pixels : b.pixels.length = 768

/-- What a poll has staged in each of its states, `k` the chunk counter (10_state.md R38, R41). -/
def Staged (b : Staging) (k : Fin 6) : Seq → Prop
  | .plBtnack | .plRefresh => b.status2.length = 2
  | .plOverview => StagedRefresh b
  | .plPixel => StagedRefresh b ∧ b.overview.length = 16 ∧ b.pixels.length = 128 * k.val
  | .plAck | .plValidate => StagedFrame b
  | .plPublish => StagedFrame b ∧ frameValid (decOverview b.overview) = true
  | _ => True

/-- The overview starts the pixel loop with nothing staged of it (44_poll.md R238). -/
theorem StagedRefresh.toPixel {b : Staging} {d : List Byte} (h : StagedRefresh b) (hd : d.length = 16) :
    Staged { b with overview := d, pixels := [] } 0 .plPixel :=
  ⟨⟨h.status2, h.refresh, h.ready⟩, hd, rfl⟩

/-- A chunk before the last (44_poll.md R238). -/
theorem Staged.nextChunk {b : Staging} {k : Fin 6} {d : List Byte} (h : Staged b k .plPixel) (hd : d.length = 128)
    (hk : k.val < 5) : Staged { b with pixels := b.pixels ++ d } (k + 1) .plPixel := by
  obtain ⟨hrefresh, hover, hpixels⟩ := h
  have hnext : (k + 1).val = k.val + 1 := Fin.val_add_one_of_lt' (by omega)
  have hmore : (b.pixels ++ d).length = 128 * (k + 1).val := by
    rw [List.length_append, hpixels, hd, hnext]
    omega
  exact ⟨⟨hrefresh.status2, hrefresh.refresh, hrefresh.ready⟩, hover, hmore⟩

/-- The last chunk completes the frame (44_poll.md R238). -/
theorem Staged.lastChunk {b : Staging} {k : Fin 6} {d : List Byte} (h : Staged b k .plPixel) (hd : d.length = 128)
    (hk : k.val = 5) : StagedFrame { b with pixels := b.pixels ++ d } := by
  obtain ⟨hrefresh, hover, hpixels⟩ := h
  have hwhole : (b.pixels ++ d).length = 768 := by
    rw [List.length_append, hpixels, hd, hk]
  exact ⟨⟨hrefresh.status2, hrefresh.refresh, hrefresh.ready⟩, hover, hwhole⟩

/-- The command `i` runs and its sequencer is in a state of it with all that state needs. -/
structure Underway (i : Instr) (s : State) : Prop where
  decoded : decodeCommand s.cur = .ok i
  checked : addressChecked i = true
  busy : s.busy = true
  state : s.seq ∈ statesOf i
  admitted : Admitted i (standing s) s.outcome s.seq
  staged : Staged s.stg s.chunk s.seq

/-- The outstanding request fits the state and is the last one issued (20_memory.md R60). -/
def PendingFits (s : State) : Prop := ∀ r, s.pending = some r → requestFits s r = true ∧ s.busLog.getLast? = some r

/-! From the invariant to its parts -/

/-- No operation has IDLE among its states. -/
theorem idle_not_mem_statesOf (i : Instr) : Seq.idle ∉ statesOf i := by
  cases i <;> simp [statesOf, identStates, writeStates, pollStates]

section
variable {s : State}

theorem Inv.sound (h : Inv s) : Sound (standing s) :=
  ⟨h.address, h.identLoaded, h.loaded, h.frameOk, h.okCause, h.failValue, h.retryBound⟩

theorem Inv.holding_eq (h : Inv s) : s.holding = decide (s.seq = .plPixel) :=
  Bool.eq_iff_iff.mpr (h.holdingIff.trans decide_eq_true_iff.symm)

theorem Inv.fits (h : Inv s) : PendingFits s := fun r hr => ⟨h.pendingFits r hr, h.pendingLast r hr⟩

/-- At IDLE no request is outstanding. -/
theorem Inv.pending_idle (h : Inv s) (hq : s.seq = .idle) : s.pending = none := by
  cases hp : s.pending with
  | none => rfl
  | some r => simpa [requestFits, hq] using h.pendingFits r hp

theorem Inv.busy_eq (h : Inv s) : s.busy = decide (s.seq ≠ .idle) :=
  Bool.eq_iff_iff.mpr (h.busyIff.trans decide_eq_true_iff.symm)

/-- A block that is not busy is ready for a command. -/
theorem Inv.ready (h : Inv s) (hb : s.busy = false) : Ready s := by
  have hq : s.seq = .idle := by simpa [hb] using h.busy_eq
  exact ⟨hb, hq, h.pending_idle hq, by rw [h.holding_eq, hq]; rfl⟩

/-- What a poll has staged. -/
theorem Inv.staged (h : Inv s) : Staged s.stg s.chunk s.seq := by
  have hrefresh (hq : s.seq ∈ [Seq.plOverview, .plPixel, .plAck, .plValidate, .plPublish]) : StagedRefresh s.stg :=
    ⟨h.staged2 (List.mem_cons_of_mem _ (List.mem_cons_of_mem _ hq)), (h.staged3 hq).1, (h.staged3 hq).2⟩
  have hframe (hq : s.seq ∈ [Seq.plAck, .plValidate, .plPublish]) : StagedFrame s.stg :=
    ⟨hrefresh (List.mem_cons_of_mem _ (List.mem_cons_of_mem _ hq)), h.staged4 (List.mem_cons_of_mem _ hq),
      h.staged5 hq⟩
  cases hq : s.seq
  case plBtnack | plRefresh => exact h.staged2 (by simp [hq])
  case plOverview => exact hrefresh (by simp [hq])
  case plPixel => exact ⟨hrefresh (by simp [hq]), h.staged4 (by simp [hq]), h.stagedChunk hq⟩
  case plAck | plValidate => exact hframe (by simp [hq])
  case plPublish => exact ⟨hframe (by simp [hq]), h.checked hq⟩
  all_goals trivial

/-- The command that runs away from IDLE. -/
theorem Inv.underway (h : Inv s) (hq : s.seq ≠ .idle) : ∃ i, Underway i s := by
  obtain ⟨i, hdec, hmem, hcheck⟩ := h.running hq
  exact ⟨i, hdec, hcheck, h.busyIff.mpr hq, hmem,
    ⟨h.session hq, h.mirrorsForPoll, h.identForWrite, h.identExit, fun hm a hz hi => h.retryLive a hz (hi ▸ hdec) hm⟩,
    h.staged⟩

end

/-! From the parts to the invariant -/

section
variable {b : Staging} {k : Fin 6} {q : Seq}

theorem Staged.status2 (h : Staged b k q)
    (hq : q ∈ [Seq.plBtnack, .plRefresh, .plOverview, .plPixel, .plAck, .plValidate, .plPublish]) :
    b.status2.length = 2 := by
  simp only [List.mem_cons, List.not_mem_nil, or_false] at hq
  rcases hq with rfl | rfl | rfl | rfl | rfl | rfl | rfl
  exacts [h, h, h.status2, h.1.status2, h.refresh.status2, h.refresh.status2, h.1.refresh.status2]

theorem Staged.refresh (h : Staged b k q)
    (hq : q ∈ [Seq.plOverview, .plPixel, .plAck, .plValidate, .plPublish]) : StagedRefresh b := by
  simp only [List.mem_cons, List.not_mem_nil, or_false] at hq
  rcases hq with rfl | rfl | rfl | rfl | rfl
  exacts [h, h.1, h.refresh, h.refresh, h.1.refresh]

theorem Staged.overview (h : Staged b k q) (hq : q ∈ [Seq.plPixel, .plAck, .plValidate, .plPublish]) :
    b.overview.length = 16 := by
  simp only [List.mem_cons, List.not_mem_nil, or_false] at hq
  rcases hq with rfl | rfl | rfl | rfl
  exacts [h.2.1, h.overview, h.overview, h.1.overview]

theorem Staged.pixels (h : Staged b k q) (hq : q ∈ [Seq.plAck, .plValidate, .plPublish]) : b.pixels.length = 768 := by
  simp only [List.mem_cons, List.not_mem_nil, or_false] at hq
  rcases hq with rfl | rfl | rfl
  exacts [h.pixels, h.pixels, h.1.pixels]

end

section
variable {i : Instr} {s t : State}

/-- A running command with a sound rest is all the invariant asks for away from IDLE. -/
theorem Underway.inv (h : Underway i s) (hs : Sound (standing s)) (hhold : s.holding = decide (s.seq = .plPixel))
    (hpend : PendingFits s) : Inv s where
  busyIff := ⟨fun _ hq => idle_not_mem_statesOf i (hq ▸ h.state), fun _ => h.busy⟩
  pendingFits r hr := (hpend r hr).1
  pendingLast r hr := (hpend r hr).2
  holdingIff := by rw [hhold, decide_eq_true_iff]
  running _ := ⟨i, h.decoded, h.state, h.checked⟩
  session _ := h.admitted.session
  mirrorsForPoll := h.admitted.mirrors
  address := hs.address
  identLoaded := hs.identLoaded
  loaded := hs.loaded
  frameOk := hs.frameOk
  identForWrite := h.admitted.tracker
  identExit := h.admitted.exit
  staged2 := h.staged.status2
  staged3 hq := ⟨(h.staged.refresh hq).refresh, (h.staged.refresh hq).ready⟩
  staged4 := h.staged.overview
  stagedChunk hq := (show Staged s.stg s.chunk .plPixel from hq ▸ h.staged).2.2
  staged5 := h.staged.pixels
  checked hq := (show Staged s.stg s.chunk .plPublish from hq ▸ h.staged).2
  okCause := hs.okCause
  failValue := hs.failValue
  retryBound := hs.retryBound
  retryLive a hz hdec hm := h.admitted.attempts hm a hz (Except.ok.inj (h.decoded.symm.trans hdec))

/-- At IDLE the invariant asks for the registers that outlive a command only. -/
theorem inv_idle (hs : Sound (standing s)) (hq : s.seq = .idle) (hb : s.busy = false) (hp : s.pending = none)
    (hh : s.holding = false) : Inv s where
  busyIff := by simp [hq, hb]
  pendingFits := by simp [hp]
  pendingLast := by simp [hp]
  holdingIff := by simp [hq, hh]
  running h := absurd hq h
  session h := absurd hq h
  mirrorsForPoll h := absurd h (by rw [hq]; decide)
  address := hs.address
  identLoaded := hs.identLoaded
  loaded := hs.loaded
  frameOk := hs.frameOk
  identForWrite h := absurd h (by rw [hq]; decide)
  identExit h := absurd h (by rw [hq]; decide)
  staged2 h := absurd h (by rw [hq]; decide)
  staged3 h := absurd h (by rw [hq]; decide)
  staged4 h := absurd h (by rw [hq]; decide)
  stagedChunk h := absurd h (by rw [hq]; decide)
  staged5 h := absurd h (by rw [hq]; decide)
  checked h := absurd h (by rw [hq]; decide)
  okCause := hs.okCause
  failValue := hs.failValue
  retryBound := hs.retryBound
  retryLive _ _ _ h := absurd h (by rw [hq]; decide)

/-- A running command is left alone by whatever keeps its registers. -/
theorem Underway.same (h : Underway i s) (hk : (t.seq, t.cur, t.busy, t.outcome, t.stg, t.chunk, standing t) =
    (s.seq, s.cur, s.busy, s.outcome, s.stg, s.chunk, standing s)) : Underway i t := by
  simp only [Prod.mk.injEq] at hk
  obtain ⟨hseq, hcur, hbusy, hout, hstg, hchunk, hstand⟩ := hk
  exact ⟨hcur ▸ h.decoded, h.checked, hbusy ▸ h.busy, hseq ▸ h.state, by rw [hseq, hout, hstand]; exact h.admitted,
    by rw [hseq, hstg, hchunk]; exact h.staged⟩

/-- A request that fits the state may be issued in it. -/
theorem Underway.inv_issue {r : BusRequest} (h : Underway i s) (hs : Sound (standing s))
    (hhold : s.holding = decide (s.seq = .plPixel)) (hr : requestFits s r = true) : Inv (issue r s) :=
  (h.same rfl : Underway i (issue r s)).inv hs hhold fun r' hr' => by
    obtain rfl := Option.some.inj hr'
    exact ⟨hr, by simp⟩

/-- The event list and the query port are no part of the invariant. -/
theorem Inv.withPorts (h : Inv s) (e : List Event) (v : Bool) (d : BitVec 32) :
    Inv { s with env := e, qvalid := v, qdata := d } := by
  by_cases hq : s.seq = .idle
  · have hb : s.busy = false := by rw [h.busy_eq, hq]; rfl
    exact inv_idle h.sound hq hb (h.pending_idle hq) (h.ready hb).holding
  · obtain ⟨i, hi⟩ := h.underway hq
    exact Underway.inv (hi.same rfl) h.sound h.holding_eq h.fits

end

/-- Settles O58: at reset the block is at IDLE, its address legal, nothing loaded and nothing published. -/
theorem invariantAtReset : Obligations.InvariantAtReset :=
  inv_idle ⟨by decide, nofun, nofun, nofun, nofun, fun _ => rfl, by decide⟩ rfl rfl rfl rfl

end Sys2Proof.Machine
end

section
/-!
PROOFS. Every step of the sequencer keeps the invariant (10_state.md R40, R43, R47, 20_memory.md R60, R84,
42_identify.md R172, R176, 43_config_writer.md R192, 44_poll.md R233 to R244).
-/

namespace Sys2Proof.Machine

/-! The states of an operation -/

/-- The state lists of the operations. -/
def operations : List (List Seq) :=
  [[], identStates, [.cq], pollStates, [.bgInit, .bgDelay, .bgDone] ++ identStates,
   [.wrEnsure] ++ identStates ++ writeStates, [.wrEnsure, .wrMutate] ++ identStates ++ writeStates]

theorem statesOf_mem (i : Instr) : statesOf i ∈ operations := by
  cases i <;> simp [statesOf, operations]

/-- The moves inside an operation that ask for nothing the state before does not have. -/
def innerMoves : List (Seq × Seq) :=
  [(.plOverview, .plPixel), (.plPixel, .plPixel)] ++
    moves.filter fun m => m.2 != .idle && m.2 != .idExit && m.1 != .idExit && m.1 != .wrEnsure

/-- They stay in the operation. -/
theorem mem_statesOf_of_innerMove {i : Instr} {q q' : Seq} (hm : (q, q') ∈ innerMoves) (h : q ∈ statesOf i) :
    q' ∈ statesOf i :=
  (by decide : ∀ l ∈ operations, ∀ m ∈ innerMoves, m.1 ∈ l → m.2 ∈ l) _ (statesOf_mem i) (q, q') hm h

/-- The move from the check of a snapshot to the exit of its bracket stays in the operation. -/
theorem idExit_mem_statesOf {i : Instr} (h : Seq.idCheck ∈ statesOf i) : Seq.idExit ∈ statesOf i :=
  (by decide : ∀ l ∈ operations, Seq.idCheck ∈ l → Seq.idExit ∈ l) _ (statesOf_mem i) h

/-- What a command's plan says of the states it walks: `BEGIN` has the retry loop, a Config Writer command an
identification of its own and the write after it (10_state.md R40). -/
theorem planOf_states {i : Instr} {p : Plan} (hp : planOf i = some p) :
    (∃ a hz, i = .beginSession a hz ∧ p = planBegin a hz) ∨
    (p.caller = .command ∧ statesOf i ∈ [identStates, pollStates, [.cq]]) ∨
    (p.caller = .writer ∧ afterEnsure p = .wrClk ∧ statesOf i = [.wrEnsure] ++ identStates ++ writeStates) ∨
    (p.caller = .writer ∧ afterEnsure p = .wrMutate ∧
      statesOf i = [.wrEnsure, .wrMutate] ++ identStates ++ writeStates) := by
  cases i <;> cases hp
  case beginSession a hz => exact .inl ⟨a, hz, rfl, rfl⟩
  case identify | poll | clkq => exact .inr (.inl ⟨rfl, by simp [statesOf]⟩)
  case wrcfg | wralm => exact .inr (.inr (.inl ⟨rfl, rfl, rfl⟩))
  all_goals exact .inr (.inr (.inr ⟨rfl, rfl, rfl⟩))

/-- Only `BEGIN` has BG_INIT. -/
theorem eq_begin_of_bgInit {i : Instr} {p : Plan} (hp : planOf i = some p) (h : Seq.bgInit ∈ statesOf i) :
    ∃ a hz, i = .beginSession a hz ∧ p = planBegin a hz := by
  rcases planOf_states hp with hi | ⟨-, hl⟩ | ⟨-, -, hl⟩ | ⟨-, -, hl⟩
  · exact hi
  · exact absurd h ((by decide : ∀ l ∈ [identStates, pollStates, [.cq]], Seq.bgInit ∉ l) _ hl)
  · exact absurd h (by rw [hl]; decide)
  · exact absurd h (by rw [hl]; decide)

/-- The retry loop is that of `BEGIN`. -/
theorem eq_begin_of_retryLoop {i : Instr} {p : Plan} (hp : planOf i = some p) (hc : p.caller = .retryLoop) :
    ∃ a hz, i = .beginSession a hz := by
  rcases planOf_states hp with ⟨a, hz, hi, -⟩ | ⟨hc', -⟩ | ⟨hc', -⟩ | ⟨hc', -⟩
  · exact ⟨a, hz, hi⟩
  all_goals simp [hc] at hc'

/-- A writer has the states of an identification and the one it goes to when identified. -/
theorem writer_states {i : Instr} {p : Plan} (hp : planOf i = some p) (hc : p.caller = .writer) :
    afterEnsure p ∈ statesOf i ∧ Seq.idClk ∈ statesOf i := by
  rcases planOf_states hp with ⟨a, hz, -, rfl⟩ | ⟨hc', -⟩ | ⟨-, ha, hl⟩ | ⟨-, ha, hl⟩
  · cases hc
  · simp [hc] at hc'
  all_goals rw [ha, hl]; decide

/-- Only a writer has WR_ENSURE. -/
theorem caller_of_wrEnsure {i : Instr} {p : Plan} (hp : planOf i = some p) (h : Seq.wrEnsure ∈ statesOf i) :
    p.caller = .writer := by
  rcases planOf_states hp with ⟨a, hz, rfl, -⟩ | ⟨-, hl⟩ | ⟨hc, -⟩ | ⟨hc, -⟩
  · exact absurd h (by change Seq.wrEnsure ∉ [.bgInit, .bgDelay, .bgDone] ++ identStates; decide)
  · exact absurd h ((by decide : ∀ l ∈ [identStates, pollStates, [.cq]], Seq.wrEnsure ∉ l) _ hl)
  · exact hc
  · exact hc

/-! What a state asks for -/

section
variable {i : Instr} {r : Standing} {c : Cause} {q : Seq}

/-- A state outside of an identification, a write and a poll asks for a session only. -/
theorem admitted_of_begun (hb : r.begun = true)
    (hq : q ∉ Seq.cq :: pollStates ++ afterEnsureStates ++ Seq.bgDelay :: identStates) : Admitted i r c q := by
  simp only [List.mem_append, not_or] at hq
  obtain ⟨⟨hpoll, hwrite⟩, hident⟩ := hq
  refine ⟨fun _ => hb, fun h => absurd h hpoll, fun h => absurd h hwrite, ?_, fun h => absurd h hident⟩
  rintro rfl
  exact absurd (by decide) hident

/-- A state of an identification or of the retry loop. -/
theorem admitted_of_live (hb : r.begun = true) (hl : Live i r.retry) (hx : q = .idExit → c = .none → r.ident = true)
    (hq : q ∈ Seq.bgDelay :: identStates) : Admitted i r c q := by
  obtain ⟨hpoll, hwrite⟩ := (by decide : ∀ q ∈ Seq.bgDelay :: identStates,
    q ∉ Seq.cq :: pollStates ∧ q ∉ afterEnsureStates) q hq
  exact ⟨fun _ => hb, fun h => absurd h hpoll, fun h => absurd h hwrite, hx, fun _ => hl⟩

/-- A state of a block write. -/
theorem admitted_of_ident (hb : r.begun = true) (hi : r.ident = true) (hq : q ∈ afterEnsureStates) :
    Admitted i r c q := by
  obtain ⟨hpoll, hident⟩ := (by decide : ∀ q ∈ afterEnsureStates,
    q ∉ Seq.cq :: pollStates ∧ q ∉ Seq.bgDelay :: identStates) q hq
  exact ⟨fun _ => hb, fun h => absurd h hpoll, fun _ => hi, fun _ _ => hi, fun h => absurd h hident⟩

/-- A state of a poll or of the clock query. -/
theorem admitted_of_loaded (hb : r.begun = true) (hm : r.mirrorsLoaded = true) (hq : q ∈ Seq.cq :: pollStates) :
    Admitted i r c q := by
  obtain ⟨hwrite, hexit, hident⟩ := (by decide : ∀ q ∈ Seq.cq :: pollStates,
    q ∉ afterEnsureStates ∧ q ≠ .idExit ∧ q ∉ Seq.bgDelay :: identStates) q hq
  exact ⟨fun _ => hb, fun _ => hm, fun h => absurd h hwrite, fun h => absurd h hexit, fun h => absurd h hident⟩

/-- What a state asks for it hands on along an inner move. -/
theorem Admitted.on {c' : Cause} {q' : Seq} (h : Admitted i r c q) (hm : (q, q') ∈ innerMoves) :
    Admitted i r c' q' := by
  obtain ⟨hinit, hpoll, hwrite, hexit, hident⟩ := (by decide : ∀ m ∈ innerMoves, m.1 ≠ .bgInit ∧
    (m.2 ∈ Seq.cq :: pollStates → m.1 ∈ Seq.cq :: pollStates) ∧
    (m.2 ∈ afterEnsureStates → m.1 ∈ afterEnsureStates) ∧ m.2 ≠ .idExit ∧
    (m.2 ∈ Seq.bgDelay :: identStates → m.1 ∈ Seq.bgDelay :: identStates)) (q, q') hm
  exact ⟨fun _ => h.session hinit, h.mirrors ∘ hpoll, h.tracker ∘ hwrite, fun h => absurd h hexit,
    h.attempts ∘ hident⟩

end

/-! Going on and ending -/

section
variable {i : Instr} {p : Plan} {s t : State} {q : Seq}

/-- The sequencer enters a state of the operation that has what it needs. -/
theorem Underway.inv_enter (q' : Seq) (h : Underway i s) (hp : s.pending = none) (ht : t.seq = q')
    (hmem : q' ∈ statesOf i) (hk : (t.cur, t.busy, t.pending) = (s.cur, s.busy, s.pending)) (hs : Sound (standing t))
    (ha : Admitted i (standing t) t.outcome q') (hst : Staged t.stg t.chunk q')
    (hhold : t.holding = decide (q' = .plPixel)) : Inv t := by
  simp only [Prod.mk.injEq] at hk
  obtain ⟨hcur, hbusy, hpend⟩ := hk
  subst ht
  exact Underway.inv ⟨hcur ▸ h.decoded, h.checked, hbusy ▸ h.busy, hmem, ha, hst⟩ hs hhold
    (by simp [PendingFits, hpend, hp])

/-- An inner move. -/
theorem Underway.inv_on (q' : Seq) (h : Underway i s) (hs : Sound (standing s)) (hp : s.pending = none)
    (hq : s.seq = q) (hm : (q, q') ∈ innerMoves) (ht : t.seq = q')
    (hk : (t.cur, t.busy, t.pending, standing t) = (s.cur, s.busy, s.pending, standing s))
    (hst : Staged t.stg t.chunk q') (hhold : t.holding = decide (q' = .plPixel)) : Inv t := by
  simp only [Prod.mk.injEq] at hk
  obtain ⟨hcur, hbusy, hpend, hstand⟩ := hk
  have hmem : q' ∈ statesOf i := mem_statesOf_of_innerMove hm (hq ▸ h.state)
  have hadm : Admitted i (standing t) t.outcome q' := hstand ▸ Admitted.on (hq ▸ h.admitted) hm
  exact h.inv_enter q' hp ht hmem (by rw [hcur, hbusy, hpend]) (hstand ▸ hs) hadm hst hhold

/-- A session has begun in all states but BG_INIT. -/
theorem Underway.begun (h : Underway i s) (hq : s.seq = q) (hne : q ≠ .bgInit) : s.begun = true :=
  h.admitted.session (hq ▸ hne)

/-- Attempts remain in the states of an identification. -/
theorem Underway.live (h : Underway i s) (hq : s.seq = q) (hm : q ∈ Seq.bgDelay :: identStates) : Live i s.retry :=
  h.admitted.attempts (hq ▸ hm)

/-- The failure exit. -/
theorem inv_endFail (c : Cause) (hs : Sound (standing s)) (hp : s.pending = none) : Inv (endFail c s) :=
  inv_idle (hs.endFail c) rfl rfl hp rfl

/-- The success exit. -/
theorem inv_endOk (v : BitVec 32) (hs : Sound (standing s)) (hp : s.pending = none) (hh : s.holding = false) :
    Inv (endOk v s) :=
  inv_idle (hs.endOk v) rfl rfl hp hh

/-- The end of a closed bracket. -/
theorem inv_endWith (v : BitVec 32) (hs : Sound (standing s)) (hp : s.pending = none) (hh : s.holding = false) :
    Inv (endWith v s) := by
  rcases endWith_cases v s with ⟨-, h⟩ | ⟨-, h⟩ <;> rw [h]
  · exact inv_endOk v hs hp hh
  · exact inv_endFail _ hs hp

/-- A failure inside the bracket of a poll. -/
theorem Underway.inv_pollFailed (h : Underway i s) (hs : Sound (standing s)) (hp : s.pending = none)
    (hh : s.holding = false) (c : Cause) (hq : s.seq = q) (hm : (q, .plExit) ∈ innerMoves) : Inv (pollFailed c s) :=
  h.inv_on .plExit hs hp hq hm rfl rfl trivial hh

/-! With no request outstanding -/

/-- The first 8 bytes of a snapshot hold the identification bytes (41_codec.md R153). -/
theorem byteAt_take {b : List Byte} {n k : Nat} (h : k < n) : byteAt (b.take n) k = byteAt b k := by
  simp [byteAt, List.getD_eq_getElem?_getD, h]

/-- ID_CHECK (42_identify.md R172). -/
theorem Underway.inv_idCheck (h : Underway i s) (hs : Sound (standing s)) (hp : s.pending = none)
    (hh : s.holding = false) (hq : s.seq = .idCheck) : Inv (identCheck s) := by
  have hmem : Seq.idExit ∈ statesOf i := idExit_mem_statesOf (hq ▸ h.state)
  have hbegun : s.begun = true := h.begun hq nofun
  have hlive : Live i s.retry := h.live hq (by decide)
  rcases identCheck_cases hq with ⟨b, hid0, hid1, ht⟩ | ⟨c, hc, ht⟩ <;> rw [ht]
  · have hsound : Sound (standing (loadMirrors b s)) :=
      ⟨hs.address, fun _ => rfl,
        fun _ => ⟨hbegun, (byteAt_take (by decide)).trans hid0, (byteAt_take (by decide)).trans hid1⟩, hs.frameOk,
        hs.okCause, hs.failValue, hs.retryBound⟩
    exact h.inv_enter .idExit hp rfl hmem rfl hsound
      (admitted_of_live hbegun hlive (fun _ _ => rfl) (by decide)) trivial hh
  · exact h.inv_enter .idExit hp rfl hmem rfl hs.dropped
      (admitted_of_live hbegun hlive (fun _ hnone => absurd hnone hc) (by decide)) trivial hh

/-- The bus address of a legal address operand is legal (60_exceptions.md R303). -/
theorem addrLow_legal {v : Byte} (h : addrValid v = true) :
    0x08 ≤ (addrLow v).toNat ∧ (addrLow v).toNat ≤ 0x77 := by
  obtain ⟨hlo, hhi⟩ := (addrValid_iff v).mp h
  have hlow : (addrLow v).toNat = v.toNat := by
    rw [addrLow, BitVec.toNat_setWidth]
    omega
  omega

/-- BG_INIT (42_identify.md R175). -/
theorem Underway.inv_bgInit (hplan : planOf i = some p) (h : Underway i s) (hs : Sound (standing s))
    (hp : s.pending = none) (hh : s.holding = false) (hq : s.seq = .bgInit) :
    Inv { p.init s with seq := .idClk } := by
  obtain ⟨a, hz, rfl, rfl⟩ := eq_begin_of_bgInit hplan (hq ▸ h.state)
  have hsound : Sound (standing (beginSessionInit a hz s)) :=
    ⟨addrLow_legal h.checked, nofun, nofun, nofun, hs.okCause, hs.failValue, (by decide : Config.retryBound.toNat ≤ 16)⟩
  have hretry : Config.retryBound ≠ 0 := by decide
  exact h.inv_enter .idClk hp rfl (List.elem_iff.mp rfl) rfl hsound
    (admitted_of_live rfl (fun _ _ _ => hretry) nofun (by decide)) trivial hh

/-- Identified, a writer goes on to its update or its write (43_config_writer.md R191). -/
theorem Underway.inv_afterEnsure (hplan : planOf i = some p) (h : Underway i s) (hs : Sound (standing s))
    (hp : s.pending = none) (hh : s.holding = false) (hc : p.caller = .writer) (hi : s.ident = true)
    (hb : s.begun = true) : Inv { s with seq := afterEnsure p } := by
  have hmem : afterEnsure p ∈ statesOf i := (writer_states hplan hc).1
  rcases afterEnsure_cases p with ha | ha <;> rw [ha] at hmem ⊢
  · exact h.inv_enter .wrMutate hp rfl hmem rfl hs (admitted_of_ident hb hi (by decide)) trivial hh
  · exact h.inv_enter .wrClk hp rfl hmem rfl hs (admitted_of_ident hb hi (by decide)) trivial hh

/-- PL_PUBLISH (44_poll.md R243). -/
theorem Underway.inv_plPublish (h : Underway i s) (hs : Sound (standing s)) (hp : s.pending = none)
    (hh : s.holding = false) (hq : s.seq = .plPublish) :
    Inv { publish s with outcome := .none, seq := .plExit } := by
  obtain ⟨-, hvalid⟩ : Staged s.stg s.chunk .plPublish := hq ▸ h.staged
  have hbegun : s.begun = true := h.begun hq nofun
  have hsound : Sound (standing (publish s)) :=
    ⟨hs.address, hs.identLoaded, hs.loaded, fun _ => ⟨hbegun, of_decide_eq_true hvalid⟩, hs.okCause, hs.failValue,
      hs.retryBound⟩
  exact h.inv_enter .plExit hp rfl (mem_statesOf_of_innerMove (by decide) (hq ▸ h.state)) rfl hsound
    (admitted_of_loaded hbegun (h.admitted.mirrors (by rw [hq]; decide)) (by decide)) trivial hh

/-- Every state of the running command, with no request outstanding. -/
theorem Underway.inv_advance (hplan : planOf i = some p) (h : Underway i s) (hs : Sound (standing s))
    (hhold : s.holding = decide (s.seq = .plPixel)) (hp : s.pending = none) : Inv (advance p s) := by
  cases hr : requests s.seq with
  | true =>
    obtain ⟨r, ht, hfits, -⟩ := advance_request p hr
    exact ht ▸ h.inv_issue hs hhold hfits
  | false =>
    have hh : s.holding = false := by
      rw [hhold]
      exact decide_eq_false fun hq => by simp [hq, requests] at hr
    cases hq : s.seq <;> simp only [advance, hq]
    case idle => exact absurd (hq ▸ h.state) (idle_not_mem_statesOf i)
    case idCheck => exact h.inv_idCheck hs hp hh hq
    case bgInit => exact h.inv_bgInit hplan hs hp hh hq
    case bgDone => exact inv_endWith _ hs hp hh
    case wrEnsure =>
      have hc : p.caller = .writer := caller_of_wrEnsure hplan (hq ▸ h.state)
      have hb : s.begun = true := h.begun hq nofun
      by_cases hi : s.ident = true
      · rw [if_pos hi]
        exact h.inv_afterEnsure hplan hs hp hh hc hi hb
      · rw [if_neg hi]
        have hlive : Live i s.retry := fun a hz hbegin => by
          subst hbegin
          cases hplan
          cases hc
        exact h.inv_enter .idClk hp rfl (writer_states hplan hc).2 rfl hs
          (admitted_of_live hb hlive nofun (by decide)) trivial hh
    case wrMutate =>
      obtain ⟨fc, fl, fh, hf⟩ := (isPlan_of_planOf hplan).update
      change Inv { mutated p s with seq := .wrClk }
      rw [hf]
      exact h.inv_on .wrClk hs hp hq (by decide) rfl rfl trivial hh
    case plValidate =>
      rcases validateFrame_cases hq with ⟨hvalid, ht⟩ | ht <;> rw [ht]
      · have hframe : Staged s.stg s.chunk .plValidate := hq ▸ h.staged
        exact h.inv_on .plPublish hs hp hq (by decide) rfl rfl ⟨hframe, hvalid⟩ hh
      · exact h.inv_pollFailed hs hp hh _ hq (by decide)
    case plPublish => exact h.inv_plPublish hs hp hh hq
    case cq => exact inv_endOk _ hs hp hh
    all_goals simp [hq, requests] at hr

/-! With the request answered -/

/-- Whether the block owns the bus after the answer `a` in the state of `s` (10_state.md R43, 44_poll.md R237, R238). -/
def heldAfter (a : Answer) (s : State) : Bool :=
  match s.seq with
  | .plOverview => (received 16 a).isSome
  | .plPixel => decide (s.chunk.val < 5) && (received 128 a).isSome
  | _ => false

/-- The answer to a request that fits leaves the bus so. -/
theorem holdingAfter_of_fits {r : BusRequest} (a : Answer) (hr : requestFits s r = true)
    (hhold : s.holding = decide (s.seq = .plPixel)) : holdingAfter r a s.holding = heldAfter a s := by
  rw [hhold]
  unfold requestFits at hr
  split at hr <;> simp_all [holdingAfter, heldAfter]

/-- The opening of a bracket (20_memory.md R84). -/
theorem Underway.inv_bracketOpened {q' : Seq} {clock : Clock} {r : BusRequest} {a : Answer} (h : Underway i s)
    (hs : Sound (standing s)) (hp : s.pending = none) (hh : s.holding = false) (hq : s.seq = q)
    (hm : (q, q') ∈ innerMoves) (hne : q ≠ .plPixel ∧ q' ≠ .plPixel) (hst : Staged s.stg s.chunk q')
    (hfits : requestFits { s with savedClock := a.hz } (.clkSet clock) = true) :
    Inv (bracketOpened clock q' r a s) := by
  rcases bracketOpened_cases clock q' r a s with ⟨-, ht⟩ | ⟨-, ht⟩ <;> rw [ht]
  · refine Underway.inv_issue (h.same rfl) hs ?_ hfits
    exact hh.trans (decide_eq_false (hq ▸ hne.1)).symm
  · exact h.inv_on q' hs hp hq hm rfl rfl hst (hh.trans (decide_eq_false hne.2).symm)

/-- The return of an identification (42_identify.md R172, R176). -/
theorem Underway.inv_identReturned (hplan : planOf i = some p) (h : Underway i s) (hs : Sound (standing s))
    (hp : s.pending = none) (hh : s.holding = false) (hq : s.seq = .idExit) : Inv (identReturned p s) := by
  have hbegun : s.begun = true := h.begun hq nofun
  rcases identReturned_cases p s with ⟨-, ht⟩ | ⟨hc, ht⟩ | ⟨hc, ⟨ho, ht⟩ | ⟨-, ht⟩⟩ <;> rw [ht]
  · exact inv_endWith 0 hs hp hh
  · obtain ⟨a, hz, rfl⟩ := eq_begin_of_retryLoop hplan hc
    have hlive : s.retry ≠ 0 := h.live hq (by decide) a hz rfl
    have hcounted : Sound (standing { s with retry := s.retry - 1 }) := by
      have hbound : s.retry.toNat ≤ 16 := hs.retryBound
      exact ⟨hs.address, hs.identLoaded, hs.loaded, hs.frameOk, hs.okCause, hs.failValue,
        (by bv_omega : (s.retry - 1).toNat ≤ 16)⟩
    rcases attemptReturned_cases s with ht | ⟨-, ht⟩ | ⟨h0, ht⟩ <;> rw [ht]
    · exact h.inv_enter .bgDone hp rfl (List.elem_iff.mp rfl) rfl hs (admitted_of_begun hbegun (by decide)) trivial hh
    · exact h.inv_enter .bgDone hp rfl (List.elem_iff.mp rfl) rfl hcounted (admitted_of_begun hbegun (by decide))
        trivial hh
    · exact h.inv_enter .bgDelay hp rfl (List.elem_iff.mp rfl) rfl hcounted
        (admitted_of_live hbegun (fun _ _ _ => h0) nofun (by decide)) trivial hh
  · exact h.inv_afterEnsure hplan hs hp hh hc (h.admitted.exit hq ho) hbegun
  · exact inv_endFail _ hs hp

/-- The last lines of a command leave a legal address (43_config_writer.md R205). -/
theorem sound_commit (hplan : planOf i = some p) (hchecked : addressChecked i = true) (hs : Sound (standing s)) :
    Sound (standing (p.commit s)) := by
  rcases planOf_cases hplan with ⟨a, hz, -, rfl⟩ | ⟨-, rfl⟩ | ⟨-, rfl⟩ | ⟨-, rfl⟩ | ⟨b, rfl⟩ | ⟨f, rfl⟩ |
    ⟨which, f, rfl⟩ | ⟨v, rfl, rfl⟩
  case inr.inr.inr.inr.inr.inr.inr =>
    exact ⟨addrLow_legal hchecked, hs.identLoaded, hs.loaded, hs.frameOk, hs.okCause, hs.failValue, hs.retryBound⟩
  all_goals exact hs

/-- The end of a block write (43_config_writer.md R192). -/
theorem Underway.inv_writeFinished (hplan : planOf i = some p) (h : Underway i s) (hs : Sound (standing s))
    (hp : s.pending = none) (hh : s.holding = false) (hq : s.seq = .wrExit) : Inv (writeFinished p.commit s) := by
  have hident : s.ident = true := h.admitted.tracker (by rw [hq]; decide)
  rcases writeFinished_cases p.commit s with ht | ht <;> rw [ht]
  · have hsame : standing { s with ident := true } = standing s := by simp only [standing, hident]
    have hsound := sound_commit hplan h.checked (s := { s with ident := true }) (hsame ▸ hs)
    obtain ⟨fa, hf⟩ := (isPlan_of_planOf hplan).commit
    rw [hf] at hsound ⊢
    exact inv_endOk 0 hsound hp hh
  · exact inv_endFail _ hs.dropped hp

/-- A pixel chunk (44_poll.md R238, R240). -/
theorem Underway.inv_chunkRead {a : Answer} (h : Underway i s) (hs : Sound (standing s)) (hp : s.pending = none)
    (hh : s.holding = heldAfter a s) (hq : s.seq = .plPixel) : Inv (chunkRead a s) := by
  simp only [heldAfter, hq] at hh
  have hst : Staged s.stg s.chunk .plPixel := hq ▸ h.staged
  rcases chunkRead_cases (a := a) hq with ⟨b, hb, hlen, hmore | hlast⟩ | ⟨hb, ht⟩ <;> rw [hb] at hh
  · obtain ⟨hk, ht⟩ := hmore
    rw [ht]
    exact h.inv_on .plPixel hs hp hq (by decide) hq rfl (hst.nextChunk hlen hk) (by simp [hh, hk])
  · obtain ⟨hk, ht⟩ := hlast
    have hfree : s.holding = false := by simp [hh, hk]
    rcases ht with ht | ht <;> rw [ht]
    · exact h.inv_on .plAck hs hp hq (by decide) rfl rfl (hst.lastChunk hlen hk) hfree
    · exact h.inv_on .plValidate hs hp hq (by decide) rfl rfl (hst.lastChunk hlen hk) hfree
  · rw [ht]
    exact h.inv_pollFailed hs hp (by simp [hh]) _ hq (by decide)

/-- The overview (44_poll.md R237). -/
theorem Underway.inv_overviewRead {a : Answer} (h : Underway i s) (hs : Sound (standing s)) (hp : s.pending = none)
    (hh : s.holding = heldAfter a s) (hq : s.seq = .plOverview) : Inv (overviewRead a s) := by
  simp only [heldAfter, hq] at hh
  have hrefresh : StagedRefresh s.stg := (hq ▸ h.staged : Staged s.stg s.chunk .plOverview)
  rcases overviewRead_cases (a := a) hq with ⟨b, hb, hlen, ht⟩ | ⟨hb, ht⟩ <;> rw [hb] at hh <;> rw [ht]
  · exact h.inv_on .plPixel hs hp hq (by decide) rfl rfl (hrefresh.toPixel hlen) hh
  · exact h.inv_pollFailed hs hp hh _ hq (by decide)

/-- Every state of the running command whose request has been answered. -/
theorem Underway.inv_respond {r : BusRequest} {a : Answer} (hplan : planOf i = some p) (h : Underway i s)
    (hs : Sound (standing s)) (hp : s.pending = none) (hhold : s.holding = heldAfter a s)
    (hr : requests s.seq = true) : Inv (respond p r a s) := by
  have hfree (hne : s.seq ≠ .plOverview ∧ s.seq ≠ .plPixel) : s.holding = false := by
    rw [hhold]
    unfold heldAfter
    split
    case h_1 hq => exact absurd hq hne.1
    case h_2 hq => exact absurd hq hne.2
    case h_3 => rfl
  cases hq : s.seq <;> simp only [respond, hq]
  case plOverview => exact h.inv_overviewRead hs hp hhold hq
  case plPixel => exact h.inv_chunkRead hs hp hhold hq
  case idle | idCheck | bgInit | bgDone | wrEnsure | wrMutate | plValidate | plPublish | cq =>
    simp [hq, requests] at hr
  all_goals have hh : s.holding = false := hfree (by simp [hq])
  case idClk | wrClk =>
    exact h.inv_bracketOpened hs hp hh hq (by decide) (by decide) trivial (by simp [requestFits, hq])
  case plClk =>
    exact h.inv_bracketOpened hs hp hh hq (by decide) (by decide) trivial (by simp [requestFits, hq, scaledClock])
  case idRead => exact h.inv_on .idCheck hs hp hq (by decide) rfl rfl trivial hh
  case bgDelay => exact h.inv_on .idClk hs hp hq (by decide) rfl rfl trivial hh
  case idExit => exact h.inv_identReturned hplan hs hp hh hq
  case wrWrite =>
    obtain ⟨c, ht⟩ := blockWritten_cases (a := a) hq
    exact ht ▸ h.inv_on .wrExit hs hp hq (by decide) rfl rfl trivial hh
  case wrExit => exact h.inv_writeFinished hplan hs hp hh hq
  case plStatus =>
    rcases statusRead_cases (a := a) hq with ⟨b, hlen, ht | ht⟩ | ht <;> rw [ht]
    · exact h.inv_on .plBtnack hs hp hq (by decide) rfl rfl hlen hh
    · exact h.inv_on .plRefresh hs hp hq (by decide) rfl rfl hlen hh
    · exact h.inv_pollFailed hs hp hh _ hq (by decide)
  case plBtnack =>
    have hstatus : Staged s.stg s.chunk .plBtnack := hq ▸ h.staged
    rcases buttonAcked_cases (a := a) hq with ht | ht <;> rw [ht]
    · exact h.inv_on .plRefresh hs hp hq (by decide) rfl rfl hstatus hh
    · exact h.inv_pollFailed hs hp hh _ hq (by decide)
  case plRefresh =>
    have hstatus : Staged s.stg s.chunk .plRefresh := hq ▸ h.staged
    rcases refreshRead_cases (a := a) hq with ⟨b, hlen, ⟨hready, ht⟩ | ht⟩ | ht <;> rw [ht]
    · exact h.inv_on .plOverview hs hp hq (by decide) rfl rfl ⟨hstatus, hlen, hready⟩ hh
    · exact h.inv_on .plExit hs hp hq (by decide) rfl rfl trivial hh
    · exact h.inv_pollFailed hs hp hh _ hq (by decide)
  case plAck =>
    have hframe : Staged s.stg s.chunk .plAck := hq ▸ h.staged
    rcases frameAcked_cases (a := a) hq with ht | ht <;> rw [ht]
    · exact h.inv_on .plValidate hs hp hq (by decide) rfl rfl hframe hh
    · exact h.inv_pollFailed hs hp hh _ hq (by decide)
  case plExit => exact inv_endWith 0 hs hp hh

/-! A step of the sequencer -/

/-- A step of the sequencer for the running command keeps the invariant. -/
theorem Underway.inv_seqStep (hplan : planOf i = some p) (h : Underway i s) (hi : Inv s)
    (hstep : seqStep p s = some t) : Inv t := by
  obtain ⟨-, ⟨hp, rfl⟩ | ⟨r, a, rest, hp, -, rfl⟩⟩ := seqStep_cases hstep
  · exact h.inv_advance hplan hi.sound hi.holding_eq hp
  · have hfits : requestFits s r = true := hi.pendingFits r hp
    have hr : requests s.seq = true := by
      cases hq : s.seq
      case idle | idCheck | bgInit | bgDone | wrEnsure | wrMutate | plValidate | plPublish | cq =>
        simp [requestFits, hq] at hfits
      all_goals rfl
    exact Underway.inv_respond hplan (h.same rfl) hi.sound rfl (holdingAfter_of_fits a hfits hi.holding_eq) hr

end

end Sys2Proof.Machine
end

section
/-!
PROOFS. Every step of the block keeps the invariant, settles and is none of the two failures of the machine
(60_exceptions.md R301, R309, R320, R321, 20_memory.md R60).
-/

namespace Sys2Proof.Machine

/-! The command of a run -/

/-- A step of the sequencer keeps the command word. -/
theorem cur_of_seqStep {p : Plan} {s t : State} (hplan : IsPlan p) (h : seqStep p s = some t) : t.cur = s.cur := by
  cases (stepped_of_seqStep hplan h).2 with
  | issued _ _ _ ht _ => rw [ht]; rfl
  | passed _ _ hk => exact hk.cur
  | opened _ _ _ _ _ ht => rw [ht]; rfl
  | left _ _ _ hk => exact hk.cur
  | dropped _ _ _ ht => rw [ht]; rfl

/-- The invariant while the word of `i` is the one being executed. -/
def InvOf (i : Instr) (s : State) : Prop := Inv s ∧ decodeCommand s.cur = .ok i

/-- The command that runs is that of the word. -/
theorem InvOf.underway {i : Instr} {s : State} (h : InvOf i s) (hq : s.seq ≠ .idle) : Underway i s := by
  obtain ⟨j, hj⟩ := h.1.underway hq
  obtain rfl := Except.ok.inj (hj.decoded.symm.trans h.2)
  exact hj

/-- A step of the sequencer keeps both. -/
theorem InvOf.seqStep {i : Instr} {p : Plan} {s t : State} (hplan : planOf i = some p) (h : InvOf i s)
    (hstep : seqStep p s = some t) : InvOf i t :=
  ⟨(h.underway (seqStep_cases hstep).1).inv_seqStep hplan h.1 hstep,
    cur_of_seqStep (isPlan_of_planOf hplan) hstep ▸ h.2⟩

/-- So does a run. -/
theorem InvOf.run {i : Instr} {p : Plan} {s : State} (hplan : planOf i = some p) (h : InvOf i s) (n : Nat) :
    InvOf i (run p n s) :=
  run_keeps (P := InvOf i) (fun _ _ => InvOf.seqStep hplan) n s h

/-- While the retry loop runs an attempt remains. -/
theorem InvOf.attemptsLeft {i : Instr} {p : Plan} {s : State} (hplan : planOf i = some p) (h : InvOf i s)
    (hq : s.seq ≠ .idle) : AttemptsLeft p s := by
  intro hc
  obtain ⟨a, hz, rfl⟩ := eq_begin_of_retryLoop hplan hc
  have hu := h.underway hq
  refine ⟨fun hens => ?_, fun hm => hu.admitted.attempts hm a hz rfl⟩
  have hw := caller_of_wrEnsure hplan (hens ▸ hu.state)
  simp [hc] at hw

/-! The acceptance of a command -/

/-- A check for the session that passes has found one. -/
theorem begun_of_checkSession {s : State} (h : checkSession s = none) : s.begun = true := by
  by_contra hb
  simp [checkSession, hb] at h

/-- A check for the mirrors that passes has found session and mirrors. -/
theorem loaded_of_checkMirrors {s : State} (h : checkMirrors s = none) :
    s.begun = true ∧ s.mirrorsLoaded = true := by
  unfold checkMirrors at h
  split at h
  case isTrue hb =>
    split at h
    case isTrue hm => exact ⟨hb, hm⟩
    case isFalse => cases h
  case isFalse => cases h

/-- A command past its checks has a legal address operand and what its first state needs (60_exceptions.md R303, R306,
R313). -/
theorem admitted_of_check {i : Instr} {p : Plan} {s : State} (hplan : planOf i = some p) (hc : p.check s = none) :
    addressChecked i = true ∧ p.first ∈ statesOf i ∧ Admitted i (standing s) s.outcome p.first := by
  have hensure (hb : checkSession s = none) : Admitted i (standing s) s.outcome .wrEnsure :=
    admitted_of_begun (begun_of_checkSession hb) (by decide)
  have hmirrors {q : Seq} (hm : checkMirrors s = none) (hq : q ∈ Seq.cq :: pollStates) :
      Admitted i (standing s) s.outcome q :=
    admitted_of_loaded (loaded_of_checkMirrors hm).1 (loaded_of_checkMirrors hm).2 hq
  cases i <;> cases hplan
  case beginSession a hz =>
    have hv : addrValid a = true := by
      by_contra hv
      simp [planBegin, plainPlan, hv] at hc
    exact ⟨hv, List.elem_iff.mp rfl, fun h => absurd rfl h, nofun, nofun, nofun, nofun⟩
  case identify =>
    exact ⟨rfl, List.elem_iff.mp rfl,
      admitted_of_live (begun_of_checkSession hc) (fun _ _ h => nomatch h) nofun (by decide)⟩
  case poll => exact ⟨rfl, List.elem_iff.mp rfl, hmirrors hc (by decide)⟩
  case clkq => exact ⟨rfl, List.elem_iff.mp rfl, hmirrors hc (by decide)⟩
  case chaddr v =>
    have hboth : s.begun = true ∧ addrValid v = true := by
      by_contra hv
      simp only [planChaddr] at hc
      grind
    exact ⟨hboth.2, List.elem_iff.mp rfl, admitted_of_begun (q := .wrEnsure) hboth.1 (by decide)⟩
  all_goals exact ⟨rfl, List.elem_iff.mp rfl, hensure hc⟩

/-- Nothing is staged where a command starts. -/
theorem staged_first {i : Instr} {p : Plan} (hplan : planOf i = some p) (b : Staging) (k : Fin 6) :
    Staged b k p.first := by
  cases i <;> cases hplan <;> trivial

/-- The acceptance of a command by a block that is not busy (30_encoding.md R102). -/
theorem Inv.invOf_accept {i : Instr} {p : Plan} {s : State} (h : Inv s) (hb : s.busy = false)
    (hplan : planOf i = some p) (hdec : decodeCommand (encodeCommand i) = .ok i) : InvOf i (accept i p s) := by
  have hready := h.ready hb
  unfold accept
  split
  case h_1 c hc =>
    have hend : raiseFail c { s with cur := encodeCommand i, busy := true } =
        endFail c { s with cur := encodeCommand i, busy := true } :=
      raiseFail_closed (by simp only [hready.seq, openBracketExit])
    rw [hend]
    exact ⟨inv_endFail c h.sound hready.pending, hdec⟩
  case h_2 hc =>
    obtain ⟨hchecked, hmem, hadm⟩ := admitted_of_check hplan hc
    have hfirst : p.first ≠ .plPixel :=
      (by decide : ∀ q ∈ [Seq.bgInit, .idClk, .plClk, .cq, .wrEnsure], q ≠ .plPixel) _ (by
        cases i <;> cases hplan <;> exact List.elem_iff.mp rfl)
    have hhold : s.holding = decide (p.first = .plPixel) := hready.holding.trans (decide_eq_false hfirst).symm
    have hu : Underway i { s with cur := encodeCommand i, busy := true, seq := p.first } :=
      ⟨hdec, hchecked, rfl, hmem, hadm, staged_first hplan _ _⟩
    exact ⟨hu.inv h.sound hhold (by simp [PendingFits, hready.pending]), hdec⟩

/-! One step -/

/-- A word of the command port that decodes to a command is that command's word (30_encoding.md R102). -/
theorem decodeCommand_encodeCommand_of_decode {w : PortWord} {i : Instr} (h : decode w = .ok i)
    (hc : i.isCommand = true) : decodeCommand (encodeCommand i) = .ok i := by
  cases w with
  | command w =>
    have hw : decodeCommand w = .ok i := h
    rw [encodeCommand_of_decodeCommand hw, hw]
  | query q =>
    have hq := (encodeQuery_of_decodeQuery (show decodeQuery q = .ok i from h)).1
    simp [hc] at hq

/-- An illegal word leaves the registers that outlive a command sound (30_encoding.md R108, R109). -/
theorem Inv.inv_illegalWord {s : State} (h : Inv s) (w : PortWord) : Inv (illegalWord w s) := by
  cases w with
  | query q => exact h.withPorts s.env false 0
  | command w =>
    cases hb : s.busy with
    | true => simpa only [illegalWord, hb, if_true] using h
    | false =>
      have hready := h.ready hb
      have hs := h.sound
      simp only [illegalWord, hb, Bool.false_eq_true, if_false]
      exact inv_idle ⟨hs.address, hs.identLoaded, hs.loaded, hs.frameOk, nofun, fun _ => rfl, hs.retryBound⟩
        hready.seq hb hready.pending hready.holding

/-- An instruction keeps the invariant when it is the one of a word. -/
theorem Inv.of_exec {i : Instr} {s t : State} (h : Inv s)
    (hdec : i.isCommand = true → decodeCommand (encodeCommand i) = .ok i) (hexec : exec i s = .next t) : Inv t := by
  rcases exec_cases hexec with ⟨v, -, rfl⟩ | ⟨-, -, rfl⟩ | ⟨p, hplan, hb, rfl⟩
  · exact h.withPorts s.env _ _
  · exact h
  · have hcommand : i.isCommand = true := by rw [← planOf_isSome, hplan]; rfl
    exact ((h.invOf_accept hb hplan (hdec hcommand)).run hplan fuel).1

/-- Settles O59: every kind of step keeps the invariant; the runs by their sequencer steps. -/
theorem stepKeepsInvariant : Obligations.StepKeepsInvariant := by
  intro s t h hstep
  rcases step_cases hstep with ⟨-, rfl⟩ | ⟨w, i, rest, -, hdec, hexec⟩ | ⟨w, e, rest, -, -, rfl⟩ |
    ⟨a, rest, -, -, rfl⟩ | ⟨a, rest, p, -, -, hp, rfl⟩ | ⟨rest, -, rfl⟩
  · exact h
  · exact (h.withPorts rest s.qvalid s.qdata).of_exec (decodeCommand_encodeCommand_of_decode hdec) hexec
  · exact (h.withPorts rest s.qvalid s.qdata).inv_illegalWord w
  · exact h.withPorts rest s.qvalid s.qdata
  · obtain ⟨i, hi, hplan⟩ := planOfWord_eq_some.mp hp
    exact (InvOf.run hplan ⟨h, hi⟩ fuel).1
  · exact inv_idle invariantAtReset.sound rfl rfl rfl rfl

/-- A presented word leaves the sequencer settled. -/
theorem settled_exec {i : Instr} {s t : State} (h : Inv s) (hs : Settled s) (hexec : exec i s = .next t) :
    Settled t := by
  rcases exec_cases hexec with ⟨v, -, rfl⟩ | ⟨-, -, rfl⟩ | ⟨p, hplan, hb, -⟩
  · exact hs
  · exact hs
  · have hcommand : i.isCommand = true := by rw [← planOf_isSome, hplan]; rfl
    rcases commandEndsOrWaits i s t hcommand (h.ready hb) hexec with ⟨-, hq, -⟩ | ⟨-, hp, -⟩
    · exact .inl hq
    · exact .inr hp

/-- Settles O23: a presented command ends or waits, and so does a resumed one; every other step leaves the sequencer
and the outstanding request as they are. -/
theorem stepSettles : Obligations.StepSettles := by
  intro s t h hs hstep
  rcases step_cases hstep with ⟨-, rfl⟩ | ⟨w, i, rest, -, -, hexec⟩ | ⟨w, e, rest, -, -, rfl⟩ | ⟨a, rest, -, -, rfl⟩ |
    ⟨a, rest, p, -, hq, hp, rfl⟩ | ⟨rest, -, rfl⟩
  · exact hs
  · exact settled_exec (h.withPorts rest s.qvalid s.qdata) hs hexec
  · cases w with
    | query q => exact hs
    | command w =>
      unfold illegalWord
      split
      case h_1 => split <;> exact hs
      case h_2 => exact hs
  · exact hs
  · obtain ⟨i, hi, hplan⟩ := planOfWord_eq_some.mp hp
    have hleft : AttemptsLeft p s := InvOf.attemptsLeft hplan ⟨h, hi⟩ hq
    exact settled_of_seqStep_none (run_ends (isPlan_of_planOf hplan) hleft fuel (rank_le_fuel s))
  · exact .inl rfl

/-- Every instruction has a next state. -/
theorem exec_next (i : Instr) (s : State) : ∃ t, exec i s = .next t := by
  cases hi : i.isCommand with
  | false => exact ⟨_, exec_query s hi⟩
  | true =>
    obtain ⟨p, -, hexec⟩ := exec_command s hi
    exact ⟨_, hexec⟩

/-- A query walks no state. -/
theorem isCommand_of_state {i : Instr} {q : Seq} (h : q ∈ statesOf i) : i.isCommand = true := by
  cases i
  case qmir | qpix | qsum | qbtn | qpixc | qsumc | qstate => exact absurd h List.not_mem_nil
  all_goals rfl

/-- Settles O60: an answer finds the plan of the running command, and every other event has a meaning. -/
theorem noFatalFailure : Obligations.NoFatalFailure := by
  intro s h
  unfold step
  split
  case h_1 => exact ⟨_, rfl⟩
  case h_2 w rest _ =>
    split
    case h_1 i _ => exact exec_next i _
    case h_2 => exact ⟨_, rfl⟩
  case h_3 =>
    unfold resume
    split
    case isTrue => exact ⟨_, rfl⟩
    case isFalse hq =>
      obtain ⟨i, hdec, hmem, -⟩ := h.running hq
      obtain ⟨p, hp⟩ := Option.isSome_iff_exists.mp ((planOf_isSome i).trans (isCommand_of_state hmem))
      rw [planOfWord_eq_some.mpr ⟨i, hdec, hp⟩]
      exact ⟨_, rfl⟩
  case h_4 => exact ⟨_, rfl⟩

end Sys2Proof.Machine
end

section
/-!
PROOFS. The Config Writer's whole-block commands and the address change; a Config Writer command entered NotIdentified,
whose identification succeeds or fails (43_config_writer.md R190, R191, R195, R205, R212).
-/

namespace Sys2Proof.Machine

/-! While Identified -/

/-- Settles O33: whole-block commands have no update, so the block sent is the current mirror. -/
theorem wholeBlockWrites : Obligations.WholeBlockWrites := by
  intro s g c w e rest h hok
  have hexec {i : Instr} {b : Block} (hp : planOf i = some (writerPlan b)) :=
    exec_writer_acked hp (isWriterPlan_writerPlan b) (checkSession_passes h.begun) h hok
  exact ⟨hexec (b := .config) rfl, hexec (b := .alarm .lo) rfl, hexec (b := .alarm .hi) rfl⟩

/-- The complement of a byte is its distance to 255 (43_config_writer.md R205). -/
theorem eq_addrChecksum {v vi : Byte} (h : vi.toNat = 255 - v.toNat) : vi = addrChecksum v := by
  apply BitVec.eq_of_toNat_eq
  rw [h, addrChecksum, BitVec.toNat_not]

/-- Settles O38: the update writes the pair, and the last line moves the address after the acknowledged write. -/
theorem addressChange : Obligations.AddressChange := by
  intro s v vi g c w e rest h hok hlo hhi hvi
  obtain rfl := eq_addrChecksum hvi
  have hvalid : addrValid v = true := (addrValid_iff v).mpr ⟨hlo, hhi⟩
  refine ⟨?_, by simp [selfConsistent, encConfig, byteAt, addrChecksum]⟩
  rw [exec_writer_acked rfl (isWriterPlan_planChaddr v) (planChaddr_check_passes h.begun hvalid) h hok]
  have haddr : addrLow v = BitVec.ofNat 7 v.toNat := (BitVec.ofNat_toNat 7 v).symm
  rw [← haddr]
  rfl

/-! Entered NotIdentified -/

/-- NotIdentified, WR_ENSURE enters the identification (43_config_writer.md R191). -/
theorem run_wrEnsure_notIdentified {p : Plan} {s : State} (n : Nat) (hq : s.seq = .wrEnsure) (hp : s.pending = none)
    (hi : s.ident = false) : run p (n + 1) s = run p n { s with seq := .idClk } := by
  have hadv : advance p s = { s with seq := .idClk } := by simp [advance, hq, hi]
  rw [run_advance n (by simp [hq]) hp, hadv]

/-- Identified, WR_ENSURE goes on (60_exceptions.md R322 (a)). -/
theorem run_wrEnsure_identified {p : Plan} {s : State} (n : Nat) (hq : s.seq = .wrEnsure) (hp : s.pending = none)
    (hi : s.ident = true) : run p (n + 1) s = run p n { s with seq := afterEnsure p } := by
  have hadv : advance p s = { s with seq := afterEnsure p } := by simp [advance, hq, hi]
  rw [run_advance n (by simp [hq]) hp, hadv]

/-- A Config Writer command is presented to a ready block in a session (43_config_writer.md R190). -/
theorem exec_writer_run {i : Instr} {p : Plan} {s : State} (hp : planOf i = some p) (hw : IsWriterPlan p)
    (hc : p.check s = none) (h : Ready s) :
    exec i s = .next (run p fuel { s with cur := encodeCommand i, busy := true, seq := .wrEnsure }) := by
  rw [exec_command_of_plan s hp, command_runs h.busy hc, hw.first]

/-- Its plan, with the caller that makes the identification return to it (60_exceptions.md R322 (c)). -/
theorem exists_writerPlan_caller {i : Instr} (hw : isWriter i = true) (hv : addressChecked i = true) :
    ∃ p, planOf i = some p ∧ IsWriterPlan p ∧ p.caller = .writer ∧ ∀ s, s.begun = true → p.check s = none := by
  obtain ⟨p, hp, hplan, hc⟩ := exists_writerPlan hw hv
  refine ⟨p, hp, hplan, ?_, hc⟩
  cases i <;> cases hp
  case beginSession | identify | poll | clkq => cases hw
  all_goals rfl

/-- Settles O42: the identification returns its cause to the writer, which ends with it. -/
theorem writerNeedsIdentification : Obligations.WriterNeedsIdentification := by
  intro i s g c r e rest hw hv h hb hi he hr
  obtain ⟨p, hp, hplan, hcaller, hc⟩ := exists_writerPlan_caller hw hv
  have hready : Ready { identBracket g r rest s with outcome := attemptCause r } :=
    ⟨h.busy, h.seq, h.pending, h.holding⟩
  have hret (t : State) (ht : t.outcome ≠ .none) : identReturned p t = endFail t.outcome t := by
    simp only [identReturned, hcaller, if_neg ht]
  have hkept : ({ s with ident := false } : State) = s := by
    rw [← hi]
  rw [exec_writer_run hp hplan (hc s hb) h, show fuel = 503 + 8 + 1 from rfl,
    run_wrEnsure_notIdentified (503 + 8) rfl (by exact h.pending) (by exact hi),
    run_identification_fail 503 rfl (by exact h.pending) (by exact h.holding) (by exact he) hr,
    hret _ (by exact attemptCause_ne_none r), run_stop 503 (seqStep_idle rfl), ← endFail_accepted hready, ← hkept]
  rfl

/-- A writer that goes on after WR_ENSURE is done within 15 steps of the sequencer. -/
theorem rank_afterEnsure_le (p : Plan) {s : State} (hq : s.seq = afterEnsure p) : rank s ≤ 15 := by
  have hsteps := stepsHere_bounds s
  rcases afterEnsure_cases p with ha | ha <;> rw [ha] at hq <;>
    simp only [rank, loops, distance, countsAttempts, hq, if_false, Bool.false_eq_true, reduceCtorEq] <;> omega

/-- Settles O41: both runs come to the state after WR_ENSURE, and either has the fuel to end from there. -/
theorem writerIdentifiesFirst : Obligations.WriterIdentifiesFirst := by
  intro i s g c r e rest hw hv h hb hi he hr
  obtain ⟨p, hp, hplan, hcaller, hc⟩ := exists_writerPlan_caller hw hv
  have hready : Ready (withSnapshot r.data (identBracket g r rest s)) := ⟨h.busy, h.seq, h.pending, h.holding⟩
  have hret (t : State) (ht : t.outcome = .none) : identReturned p t = { t with seq := afterEnsure p } := by
    simp only [identReturned, hcaller, if_pos ht]
  have hends (t : State) (ht : t.seq = afterEnsure p) : run p (503 + 8) t = run p 503 t :=
    run_more (run_ends (isPlan_of_planOf hp) (fun hloop => by simp [hcaller] at hloop) 503
      ((rank_afterEnsure_le p ht).trans (by decide))) 8
  rw [exec_writer_run hp hplan (hc s hb) h, exec_writer_run hp hplan (hc _ (by exact hb)) hready,
    show fuel = 503 + 8 + 1 from rfl, run_wrEnsure_notIdentified (503 + 8) rfl (by exact h.pending) (by exact hi),
    run_identification_ok 503 rfl (by exact h.pending) (by exact h.holding) (by exact he) hr, hret _ (by rfl),
    run_wrEnsure_identified (503 + 8) rfl (by exact h.pending) (by rfl), hends _ (by rfl)]
  rfl

end Sys2Proof.Machine
end

section
/-!
PROOFS. `BEGIN` attempt by attempt: a failed attempt and the delay after it, any number of them, and the attempt that
ends the loop (42_identify.md R175, R176, R177).
-/

namespace Sys2Proof.Machine

section
variable {p : Plan} {s : State} {rest : List Event} (n : Nat)

/-! The attempts -/

/-- The retry loop counts a failed attempt while more than one remains (42_identify.md R176). -/
theorem attemptReturned_again (ho : s.outcome ≠ .none) (hr : s.retry - 1 ≠ 0) :
    attemptReturned s = { s with retry := s.retry - 1, seq := .bgDelay } := by
  rw [attemptReturned, if_neg ho, if_neg hr]

/-- The last one ends the loop (42_identify.md R176). -/
theorem attemptReturned_last (ho : s.outcome ≠ .none) (hr : s.retry - 1 = 0) :
    attemptReturned s = { s with retry := s.retry - 1, seq := .bgDone } := by
  rw [attemptReturned, if_neg ho, if_pos hr]

/-- The state after the failed attempt `t` and the delay, which leads to the next (42_identify.md R176). -/
def attemptFailed (t : Attempt) (rest : List Event) (s : State) : State :=
  { s with savedClock := t.get.hz, snap := received 56 t.read, outcome := attemptCause t.read, ident := false,
           retry := s.retry - 1, env := rest, busLog := s.busLog ++ attemptRequests s.busAddr s.baseClock [t] }

/-- A failed attempt that is not the last takes 10 steps of the sequencer. -/
theorem run_failedAttempt {t : Attempt} (hc : p.caller = .retryLoop) (hq : s.seq = .idClk) (hp : s.pending = none)
    (hh : s.holding = false) (he : s.env = attemptEvents [t] ++ rest) (ht : ¬ identifies t.read)
    (hr : s.retry - 1 ≠ 0) : run p (n + 10) s = run p n (attemptFailed t rest s) := by
  have hret (u : State) : identReturned p u = attemptReturned u := by simp only [identReturned, hc]
  rw [show n + 10 = n + 2 + 8 from rfl,
    run_identification_fail (g := t.get) (c := t.set) (e := t.restore) (rest := .answer t.wait :: rest) (n + 2) hq hp hh
      (by simpa [attemptEvents, answers] using he) ht,
    hret, attemptReturned_again (by exact attemptCause_ne_none t.read) (by exact hr),
    run_transfer (r := .delay 16) (a := t.wait) (rest := rest) n (by simp) (by exact hp) rfl rfl]
  simp [respond, transferred, identBracket, bracketed, attemptFailed, attemptRequests, holdingAfter, hq]

/-- Any number of failed attempts while more remain (42_identify.md R176). -/
theorem run_failedAttempts {ts : List Attempt} (hc : p.caller = .retryLoop) (hq : s.seq = .idClk)
    (hp : s.pending = none) (hh : s.holding = false) (hi : s.ident = false) (he : s.env = attemptEvents ts ++ rest)
    (hts : ∀ t ∈ ts, ¬ identifies t.read) (hr : ts.length < s.retry.toNat) :
    ∃ saved snap c, run p (n + 10 * ts.length) s = run p n { s with
      savedClock := saved, snap := snap, outcome := c, ident := false, env := rest
      retry := s.retry - BitVec.ofNat 5 ts.length
      busLog := s.busLog ++ attemptRequests s.busAddr s.baseClock ts } := by
  induction ts generalizing s with
  | nil =>
    refine ⟨s.savedClock, s.snap, s.outcome, ?_⟩
    have henv : rest = s.env := he.symm
    simp [attemptRequests, henv, ← hi]
  | cons t ts ih =>
    rw [List.length_cons] at hr
    have hlive : s.retry - 1 ≠ 0 := by bv_omega
    have hless : ts.length < (s.retry - 1).toNat := by bv_omega
    have hcount : s.retry - 1 - BitVec.ofNat 5 ts.length = s.retry - BitVec.ofNat 5 (ts.length + 1) := by bv_omega
    obtain ⟨saved, snap, c, hrun⟩ := ih (s := attemptFailed t (attemptEvents ts ++ rest) s) (by exact hq)
      (by exact hp) (by exact hh) rfl rfl (fun u hu => hts u (List.mem_cons_of_mem t hu)) (by exact hless)
    refine ⟨saved, snap, c, ?_⟩
    rw [List.length_cons, show n + 10 * (ts.length + 1) = n + 10 * ts.length + 10 by omega,
      run_failedAttempt (rest := attemptEvents ts ++ rest) (n + 10 * ts.length) hc hq hp hh
        (by simpa [attemptEvents] using he) (hts t List.mem_cons_self) hlive, hrun]
    simp [attemptFailed, attemptRequests, ← hcount]

/-! The end of the loop -/

/-- BG_DONE ends the command by the result of the last attempt (42_identify.md R177). -/
theorem run_bgDone (hq : s.seq = .bgDone) (hp : s.pending = none) :
    run p (n + 1) s = endWith (s.retry.setWidth 32) s := by
  have hadv : advance p s = endWith (s.retry.setWidth 32) s := by simp only [advance, hq]
  have hend : (endWith (s.retry.setWidth 32) s).seq = .idle := by
    rcases endWith_cases (s.retry.setWidth 32) s with ⟨-, h⟩ | ⟨-, h⟩ <;> rw [h] <;> rfl
  rw [run_advance n (by simp [hq]) hp, hadv, run_stop n (seqStep_idle hend)]

/-- An attempt that succeeds ends the command with the attempts that remain (42_identify.md R176, R177). -/
theorem run_attempt_ok {g c r e : Answer} (hc : p.caller = .retryLoop) (hq : s.seq = .idClk) (hp : s.pending = none)
    (hh : s.holding = false) (he : s.env = answers [g, c, r, e] ++ rest) (hr : identifies r) :
    run p (n + 9) s =
      endOk (s.retry.setWidth 32) { withSnapshot r.data (identBracket g r rest s) with seq := .bgDone } := by
  have hret (u : State) (hu : u.outcome = .none) : identReturned p u = { u with seq := .bgDone } := by
    simp only [identReturned, hc, attemptReturned, if_pos hu]
  rw [show n + 9 = n + 1 + 8 from rfl, run_identification_ok (n + 1) hq hp hh he hr, hret _ (by rfl),
    run_bgDone n rfl (by exact hp), endWith_ok (by rfl)]
  rfl

/-- The last attempt, failed, ends it with its cause (42_identify.md R176, R177). -/
theorem run_attempt_exhausted {g c r e : Answer} (hc : p.caller = .retryLoop) (hq : s.seq = .idClk)
    (hp : s.pending = none) (hh : s.holding = false) (he : s.env = answers [g, c, r, e] ++ rest)
    (hr : ¬ identifies r) (hlast : s.retry - 1 = 0) :
    run p (n + 9) s = endFail (attemptCause r) { identBracket g r rest s with
      ident := false, outcome := attemptCause r, retry := s.retry - 1, seq := .bgDone } := by
  have hret (u : State) : identReturned p u = attemptReturned u := by simp only [identReturned, hc]
  rw [show n + 9 = n + 1 + 8 from rfl, run_identification_fail (n + 1) hq hp hh he hr, hret,
    attemptReturned_last (by exact attemptCause_ne_none r) (by exact hlast), run_bgDone n rfl (by exact hp),
    endWith_fail (by exact attemptCause_ne_none r)]
  rfl

end

/-! The command -/

/-- The fresh session that BG_INIT makes for an accepted `BEGIN` (42_identify.md R175). -/
def begunAt (a : Byte) (hz : Clock) (s : State) : State :=
  { beginSessionInit a hz { s with cur := encodeCommand (.beginSession a hz), busy := true } with seq := .idClk }

/-- `BEGIN` with a legal address runs its attempts from that session (42_identify.md R175). -/
theorem exec_begin_run {s : State} {a : Byte} {hz : Clock} (h : Ready s) (hlo : 0x08 ≤ a.toNat)
    (hhi : a.toNat ≤ 0x77) : exec (.beginSession a hz) s = .next (run (planBegin a hz) 511 (begunAt a hz s)) := by
  have hcheck : (planBegin a hz).check s = none := if_pos ((addrValid_iff a).mpr ⟨hlo, hhi⟩)
  rw [exec_command_of_plan s rfl, command_runs h.busy hcheck, show fuel = 511 + 1 from rfl,
    run_advance 511 (isPlan_planBegin a hz).first.1 (by exact h.pending)]
  rfl

/-- A legal address is its own low 7 bits. -/
theorem addrLow_toNat {a : Byte} (h : a.toNat ≤ 0x77) : (addrLow a).toNat = a.toNat := by
  rw [addrLow, BitVec.toNat_setWidth]
  omega

/-- Settles O29: the first attempt ends the loop with all 16 attempts left. -/
theorem beginFirstAttempt : Obligations.BeginFirstAttempt := by
  intro s a hz g c r e rest h hlo hhi he hr
  have haddr : BitVec.ofNat 7 a.toNat = addrLow a := BitVec.ofNat_toNat 7 a
  have hready : Ready (withSnapshot r.data (identBracket g r rest { s with
      begun := true, busAddr := addrLow a, baseClock := hz, framePresent := false, retry := 16 })) :=
    ⟨h.busy, h.seq, h.pending, h.holding⟩
  rw [exec_begin_run h hlo hhi, show 511 = 502 + 9 from rfl,
    run_attempt_ok 502 rfl rfl (by exact h.pending) (by exact h.holding) (by exact he) hr, haddr,
    ← endOk_accepted (q := .bgDone) hready]
  rfl

/-- Settles O30: the failed attempts are counted one by one; the one that succeeds ends the loop. -/
theorem beginSucceedsAtAttempt : Obligations.BeginSucceedsAtAttempt := by
  intro s a hz ts g c r e rest h hlo hhi hlen hts hr he
  obtain ⟨saved, snap, cause, hrun⟩ := run_failedAttempts (p := planBegin a hz) (s := begunAt a hz s)
    (rest := answers [g, c, r, e] ++ rest) (502 - 10 * ts.length + 9) rfl rfl (by exact h.pending)
    (by exact h.holding) rfl (by rw [← List.append_assoc]; exact he) hts (by change ts.length < 16; omega)
  rw [run_attempt_ok (502 - 10 * ts.length) rfl rfl (by exact h.pending) (by exact h.holding) rfl hr,
    show 502 - 10 * ts.length + 9 + 10 * ts.length = 511 by omega] at hrun
  refine ⟨_, (exec_begin_run h hlo hhi).trans (congrArg _ hrun), ⟨rfl, rfl, h.pending, h.holding⟩, rfl, rfl, ?_, rfl,
    rfl, rfl, rfl, addrLow_toNat hhi, rfl, rfl, rfl, rfl, rfl⟩
  have hleft : (16#5 - BitVec.ofNat 5 ts.length).toNat = 16 - ts.length := by bv_omega
  change ((16#5 - BitVec.ofNat 5 ts.length).setWidth 32).toNat = 16 - ts.length
  rw [BitVec.toNat_setWidth, hleft]
  omega

/-- Settles O31: after fifteen counted attempts one remains, which ends the loop. -/
theorem beginExhausted : Obligations.BeginExhausted := by
  intro s a hz ts g c r e rest h hlo hhi hlen hts hr he
  obtain ⟨saved, snap, cause, hrun⟩ := run_failedAttempts (p := planBegin a hz) (s := begunAt a hz s)
    (rest := answers [g, c, r, e] ++ rest) (352 + 9) rfl rfl (by exact h.pending)
    (by exact h.holding) rfl (by rw [← List.append_assoc]; exact he) hts (by change ts.length < 16; omega)
  have hlast : 16#5 - BitVec.ofNat 5 ts.length - 1 = 0 := by
    rw [hlen]
    rfl
  rw [run_attempt_exhausted 352 rfl rfl (by exact h.pending) (by exact h.holding) rfl hr (by exact hlast),
    show 352 + 9 + 10 * ts.length = 511 by omega] at hrun
  exact ⟨_, (exec_begin_run h hlo hhi).trans (congrArg _ hrun), ⟨rfl, rfl, h.pending, rfl⟩, rfl, rfl, rfl, rfl,
    rfl, rfl, rfl, addrLow_toNat hhi, rfl, rfl, rfl, rfl, rfl⟩

end Sys2Proof.Machine
end

section
/-!
PROOFS. The poll that succeeds, and the polls that fail at one of their transfers (44_poll.md R233 to R246).
-/

namespace Sys2Proof.Machine

/-! The poll that succeeds -/

section
variable {p : Plan} {s : State} (n : Nat)

/-- A valid frame passes the check in both modes (44_poll.md R241). -/
theorem run_plValidate_valid (hq : s.seq = .plValidate) (hp : s.pending = none)
    (h : (le16 s.stg.overview 8).toNat < (le16 s.stg.overview 12).toNat) :
    run p (n + 1) s = run p n { s with seq := .plPublish } := by
  have hvalid : frameValid (decOverview s.stg.overview) = true := decide_eq_true h
  have hcheck : advance p s = { s with seq := .plPublish } := by simp [advance, hq, validateFrame, hvalid]
  rw [run_advance n (by simp [hq]) hp, hcheck]

/-- The publication of all fields in one step (44_poll.md R243). -/
theorem run_plPublish (hq : s.seq = .plPublish) (hp : s.pending = none) :
    run p (n + 1) s = run p n { publish s with outcome := .none, seq := .plExit } := by
  have hadv : advance p s = { publish s with outcome := .none, seq := .plExit } := by simp only [advance, hq]
  rw [run_advance n (by simp [hq]) hp, hadv]

end

/-- Settles O43: with its frame staged and valid the poll publishes, restores the clock and ends. -/
theorem pollSucceeds : Obligations.PollSucceeds := by
  intro s hz g c st wb rf ov p0 p1 p2 p3 p4 p5 ack e rest h hhz ha hvalid he
  obtain rfl := eq_scaledClock hhz
  rw [answers_append, answers_append] at he
  obtain ⟨k, hframe⟩ := run_pollFrame (p := planPoll) (s := pollStarted s) 487 ha rfl h.ready.pending he rfl
  rw [exec_poll_run h, fuel, hframe, show 487 + k = 483 + k + 2 + 1 + 1 by omega,
    run_plValidate_valid (483 + k + 2 + 1) rfl (by exact h.ready.pending) (by exact hvalid),
    run_plPublish (483 + k + 2) rfl (by exact h.ready.pending),
    run_plExit (483 + k) rfl (by exact h.ready.pending) rfl, endWith_ok (by rfl), h.ready.eq_idle]
  simp [endOk, withOk, publish, transferred, pollStarted, stagedWhole, decRefresh, scaledClock]

/-! A failed transfer -/

/-- A read that does not bring `n` bytes is not received (20_memory.md R62, R67). -/
theorem received_of_not_brings {n : Nat} {a : Answer} (h : ¬ brings n a) : received n a = none :=
  Option.eq_none_iff_forall_ne_some.mpr fun _ hb =>
    h ⟨(received_eq_some.mp hb).1, (received_eq_some.mp hb).2.1⟩

section
variable {p : Plan} {s : State} {a : Answer} {rest : List Event} (n : Nat)

/-- The failed status read (44_poll.md R233). -/
theorem run_plStatus_failed (hq : s.seq = .plStatus) (hp : s.pending = none) (he : s.env = .answer a :: rest)
    (ha : ¬ brings 2 a) :
    run p (n + 2) s =
      run p n (pollFailed .transport (transferred (.wrRd s.busAddr 0x00 2 false) false rest s)) := by
  have hnone : received Config.statusReadLen a = none := received_of_not_brings ha
  rw [run_transfer (r := .wrRd s.busAddr 0x00 2 false) n (by simp [hq]) hp (by simp only [advance, hq]; rfl) he]
  simp only [respond, transferred, hq, statusRead, hnone]
  exact congrArg (run p n) (raiseFail_eq_pollFailed rfl)

/-- The button write-back that is not acknowledged (44_poll.md R234). -/
theorem run_plBtnack_failed (hq : s.seq = .plBtnack) (hp : s.pending = none) (he : s.env = .answer a :: rest)
    (ha : a.ok = false) :
    run p (n + 2) s = run p n (pollFailed .transport
      (transferred (.wr s.busAddr 0x00 [byteAt s.stg.status2 0]) false rest s)) := by
  rw [run_transfer (r := .wr s.busAddr 0x00 [byteAt s.stg.status2 0]) n (by simp [hq]) hp
    (by simp only [advance, hq]; rfl) he]
  simp only [respond, transferred, hq, buttonAcked, wrote, ha, Bool.false_eq_true, if_false]
  exact congrArg (run p n) (raiseFail_eq_pollFailed rfl)

/-- The failed refresh-control read (44_poll.md R235). -/
theorem refreshRead_failed (hq : s.seq = .plRefresh) (ha : ¬ brings 2 a) :
    refreshRead a s = pollFailed .transport s := by
  have hnone : received Config.refreshSize a = none := received_of_not_brings ha
  simp only [refreshRead, hnone]
  exact raiseFail_eq_pollFailed (by simp only [hq, openBracketExit])

/-- The failed overview read leaves the bus free (44_poll.md R237). -/
theorem run_plOverview_failed (hq : s.seq = .plOverview) (hp : s.pending = none) (he : s.env = .answer a :: rest)
    (ha : ¬ brings 16 a) :
    run p (n + 2) s =
      run p n (pollFailed .transport (transferred (.wrRd s.busAddr 0x70 16 true) false rest s)) := by
  have hnone : received 16 a = none := received_of_not_brings ha
  rw [run_transfer (r := .wrRd s.busAddr 0x70 16 true) n (by simp [hq]) hp (by simp only [advance, hq]; rfl) he]
  simp only [respond, transferred, hq, overviewRead, holdingAfter, hnone, Option.isSome_none, Bool.and_false]
  exact congrArg (run p n) (raiseFail_eq_pollFailed rfl)

/-- A failed pixel chunk leaves the bus free (44_poll.md R238). -/
theorem run_plPixel_failed (hq : s.seq = .plPixel) (hp : s.pending = none) (he : s.env = .answer a :: rest)
    (ha : ¬ brings 128 a) :
    run p (n + 2) s = run p n (pollFailed .transport
      (transferred (.rdMore s.busAddr 128 (decide (s.chunk.val < 5))) false rest s)) := by
  have hnone : received 128 a = none := received_of_not_brings ha
  rw [run_transfer (r := .rdMore s.busAddr 128 (decide (s.chunk.val < 5))) n (by simp [hq]) hp
    (by simp only [advance, hq]; rfl) he]
  simp only [respond, transferred, hq, chunkRead, holdingAfter, hnone, Option.isSome_none, Bool.and_false]
  exact congrArg (run p n) (raiseFail_eq_pollFailed rfl)

/-- The frame acknowledgement that is not acknowledged (44_poll.md R240). -/
theorem run_plAck_failed (hq : s.seq = .plAck) (hp : s.pending = none) (he : s.env = .answer a :: rest)
    (ha : a.ok = false) :
    run p (n + 2) s =
      run p n (pollFailed .transport (transferred (.wr s.busAddr 0x6E [0x00]) false rest s)) := by
  rw [run_transfer (r := .wr s.busAddr 0x6E [0x00]) n (by simp [hq]) hp (by simp only [advance, hq]; rfl) he]
  simp only [respond, transferred, hq, frameAcked, wrote, ha, Bool.false_eq_true, if_false]
  exact congrArg (run p n) (raiseFail_eq_pollFailed rfl)

end

/-! The end of a poll that failed -/

/-- The exit of a poll that holds a failed transfer, with the requests `traffic` made since its start. -/
def transferFailed (g e : Answer) (chunk : Fin 6) (stg : Staging) (traffic : List BusRequest) (rest : List Event)
    (s : State) : State :=
  { pollHeld g chunk .transport (s.busLog ++ traffic) (.answer e :: rest) (pollStarted s) with
    seq := .plExit, stg := stg, holding := false }

/-- A poll that comes to that exit fails with `TRANSPORT` and publishes nothing (44_poll.md R245). -/
theorem pollFailsWith_of_run {s : State} {g e : Answer} {chunk : Fin 6} {stg : Staging}
    {traffic traffic' : List BusRequest} {rest : List Event} (n : Nat) (h : PollReady s)
    (hrun : run planPoll fuel (pollStarted s) = run planPoll (n + 2) (transferFailed g e chunk stg traffic rest s))
    (ht : traffic' = traffic ++ [.clkSet g.hz]) : PollFailsWith traffic' rest s := by
  have hexec : exec .poll s =
      .next (withFail .poll .transport
        (pollHeld g chunk .transport (s.busLog ++ traffic ++ [.clkSet g.hz]) rest s)) := by
    rw [exec_poll_run h, hrun]
    exact congrArg Host.Outcome.next (run_plExit_failed n h.ready nofun)
  have hready := h.ready
  exact ⟨_, hexec, ⟨hready.busy, hready.seq, hready.pending, hready.holding⟩, rfl, rfl, rfl, rfl, rfl,
    by rw [ht, ← List.append_assoc]; rfl⟩

section
variable {s : State} {g c e st wb rf ov bad : Answer} {rest : List Event}

/-- The status read fails (44_poll.md R233). -/
theorem pollFails_atStatus (h : PollReady s) (hst : ¬ brings 2 st) (he : s.env = answers [g, c, st, e] ++ rest) :
    PollFailsWith [.clkGet, .clkSet (scaledClock s), .wrRd s.busAddr 0x00 2 false, .clkSet g.hz] rest s := by
  refine pollFailsWith_of_run (g := g) (e := e) (chunk := s.chunk) (stg := s.stg)
    (traffic := [.clkGet, .clkSet (scaledClock s), .wrRd s.busAddr 0x00 2 false]) 505 h ?_ rfl
  rw [fuel, show 512 = 505 + 2 + 2 + 3 from rfl,
    run_bracket (505 + 2 + 2) (.inr (.inr ⟨rfl, rfl, rfl⟩)) rfl (by exact h.ready.pending) (by exact he),
    run_plStatus_failed (505 + 2) rfl rfl rfl hst]
  simp [transferFailed, pollHeld, pollFailed, transferred, pollStarted, scaledClock, h.ready.pending]

/-- The button write-back fails (44_poll.md R234). -/
theorem pollFails_atWriteBack (h : PollReady s) (hst : brings 2 st) (hedge : edgeSet (byteAt st.data 0) = true)
    (hbad : bad.ok = false) (he : s.env = answers [g, c, st, bad, e] ++ rest) :
    PollFailsWith [.clkGet, .clkSet (scaledClock s), .wrRd s.busAddr 0x00 2 false,
      .wr s.busAddr 0x00 [byteAt st.data 0], .clkSet g.hz] rest s := by
  refine pollFailsWith_of_run (g := g) (e := e) (chunk := s.chunk) (stg := { s.stg with status2 := st.data })
    (traffic := [.clkGet, .clkSet (scaledClock s), .wrRd s.busAddr 0x00 2 false,
      .wr s.busAddr 0x00 [byteAt st.data 0]]) 503 h ?_ rfl
  rw [fuel, show 512 = 503 + 2 + 2 + 2 + 3 from rfl,
    run_bracket (503 + 2 + 2 + 2) (.inr (.inr ⟨rfl, rfl, rfl⟩)) rfl (by exact h.ready.pending) (by exact he),
    run_plStatus (503 + 2 + 2) rfl rfl rfl hst, run_plBtnack_failed (503 + 2) (by simp [hedge]) rfl rfl hbad]
  simp [transferFailed, pollHeld, pollFailed, transferred, pollStarted, scaledClock, h.ready.pending]

/-- The refresh-control read fails (44_poll.md R235). -/
theorem pollFails_atRefresh (h : PollReady s) (hst : brings 2 st) (hwb : wb.ok = true) (hbad : ¬ brings 2 bad)
    (he : s.env = answers (pollHeadAnswers g c st wb bad ++ [e]) ++ rest) :
    PollFailsWith (pollHead s.busAddr (scaledClock s) (byteAt st.data 0) ++ [.clkSet g.hz]) rest s := by
  rw [answers_append] at he
  obtain ⟨k, hhead⟩ := run_pollHead (p := planPoll) (s := pollStarted s) 503 rfl h.ready.pending he hst hwb
  rw [refreshRead_failed rfl hbad, show 503 + k = 501 + k + 2 by omega] at hhead
  exact pollFailsWith_of_run (g := g) (501 + k) h hhead rfl

/-- The overview read fails (44_poll.md R237). -/
theorem pollFails_atOverview (h : PollReady s) (hst : brings 2 st) (hwb : wb.ok = true) (hrf : brings 2 rf)
    (hbit : (byteAt rf.data 0).toNat % 2 = 1) (hbad : ¬ brings 16 bad)
    (he : s.env = answers (pollHeadAnswers g c st wb rf ++ [bad, e]) ++ rest) :
    PollFailsWith (pollHead s.busAddr (scaledClock s) (byteAt st.data 0) ++
      [.wrRd s.busAddr 0x70 16 true, .clkSet g.hz]) rest s := by
  rw [answers_append] at he
  obtain ⟨k, hhead⟩ := run_pollHead (p := planPoll) (s := pollStarted s) 503 rfl h.ready.pending he hst hwb
  rw [refreshRead_ready hrf hbit, show 503 + k = 499 + k + 2 + 2 by omega,
    run_plOverview_failed (499 + k + 2) rfl (by exact h.ready.pending) rfl hbad] at hhead
  refine pollFailsWith_of_run (g := g) (e := e) (chunk := s.chunk)
    (stg := { s.stg with status2 := st.data, refresh := rf.data })
    (traffic := pollHead s.busAddr (scaledClock s) (byteAt st.data 0) ++ [.wrRd s.busAddr 0x70 16 true]) (499 + k) h
    (hhead.trans ?_) (by simp)
  simp [transferFailed, pollHeld, pollFailed, transferred, pollStarted, headRead, scaledClock]

/-- A pixel chunk fails after any number of complete ones (44_poll.md R238). -/
theorem pollFails_atPixel {ps : List Answer} (h : PollReady s) (hst : brings 2 st) (hwb : wb.ok = true)
    (hrf : brings 2 rf) (hbit : (byteAt rf.data 0).toNat % 2 = 1) (hov : brings 16 ov) (hlen : ps.length ≤ 5)
    (hps : ∀ p ∈ ps, brings 128 p) (hbad : ¬ brings 128 bad)
    (he : s.env = answers (pollHeadAnswers g c st wb rf ++ [ov] ++ ps ++ [bad, e]) ++ rest) :
    PollFailsWith (pollHead s.busAddr (scaledClock s) (byteAt st.data 0) ++ [.wrRd s.busAddr 0x70 16 true] ++
      List.replicate ps.length (.rdMore s.busAddr 128 true) ++
      [.rdMore s.busAddr 128 (decide (ps.length < 5)), .clkSet g.hz]) rest s := by
  rw [answers_append, answers_append, answers_append] at he
  obtain ⟨k, hhead⟩ := run_pollHead (p := planPoll) (s := pollStarted s) 503 rfl h.ready.pending he hst hwb
  rw [refreshRead_ready hrf hbit, show 503 + k = 497 - 2 * ps.length + k + 2 + 2 + 2 * ps.length + 2 by omega,
    run_plOverview (497 - 2 * ps.length + k + 2 + 2 + 2 * ps.length) rfl (by exact h.ready.pending) rfl hov,
    run_plPixels (k := ⟨ps.length, by omega⟩) (rest := answers [bad, e] ++ rest) (497 - 2 * ps.length + k + 2 + 2) hps
      rfl (by exact h.ready.pending) rfl rfl (by simp),
    run_plPixel_failed (497 - 2 * ps.length + k + 2) rfl (by exact h.ready.pending) rfl hbad] at hhead
  refine pollFailsWith_of_run (g := g) (e := e) (chunk := ⟨ps.length, by omega⟩)
    (stg := { status2 := st.data, refresh := rf.data, overview := ov.data, pixels := ps.flatMap Answer.data })
    (traffic := pollHead s.busAddr (scaledClock s) (byteAt st.data 0) ++ [.wrRd s.busAddr 0x70 16 true] ++
      List.replicate ps.length (.rdMore s.busAddr 128 true) ++ [.rdMore s.busAddr 128 (decide (ps.length < 5))])
    (497 - 2 * ps.length + k) h (hhead.trans ?_) (by simp)
  simp [transferFailed, pollHeld, pollFailed, transferred, pollStarted, headRead, scaledClock]

/-- The acknowledgement of the manual mode fails, whatever the overview says (44_poll.md R240). -/
theorem pollFails_atAck {ps : List Answer} (h : PollReady s) (hst : brings 2 st) (hwb : wb.ok = true)
    (hrf : brings 2 rf) (hbit : (byteAt rf.data 0).toNat % 2 = 1) (hov : brings 16 ov) (hlen : ps.length = 6)
    (hps : ∀ p ∈ ps, brings 128 p) (hmode : s.cf.funcCtrl.getLsbD 2 = true) (hbad : bad.ok = false)
    (he : s.env = answers (pollHeadAnswers g c st wb rf ++ [ov] ++ ps ++ [bad, e]) ++ rest) :
    PollFailsWith (pollHead s.busAddr (scaledClock s) (byteAt st.data 0) ++ pollBody s.busAddr true ++
      [.clkSet g.hz]) rest s := by
  obtain ⟨p0, p1, p2, p3, p4, p5, rfl⟩ : ∃ p0 p1 p2 p3 p4 p5, ps = [p0, p1, p2, p3, p4, p5] :=
    match ps, hlen with
    | [p0, p1, p2, p3, p4, p5], _ => ⟨p0, p1, p2, p3, p4, p5, rfl⟩
  rw [List.append_assoc, List.append_assoc, answers_append] at he
  obtain ⟨k, hhead⟩ := run_pollHead (p := planPoll) (s := pollStarted s) 503 rfl h.ready.pending he hst hwb
  rw [refreshRead_ready hrf hbit, show 503 + k = 485 + k + 2 + 2 + 14 by omega,
    run_pollReads (rest := answers [bad, e] ++ rest) (485 + k + 2 + 2) rfl (by exact h.ready.pending) rfl hov hps,
    run_plAck_failed (485 + k + 2) (by simp [headRead, pollStarted, hmode]) (by exact h.ready.pending) rfl
      hbad] at hhead
  refine pollFailsWith_of_run (g := g) (e := e) (chunk := 5)
    (stg := stagedWhole st rf ov [p0, p1, p2, p3, p4, p5])
    (traffic := pollHead s.busAddr (scaledClock s) (byteAt st.data 0) ++ pollBody s.busAddr true)
    (485 + k) h (hhead.trans ?_) rfl
  simp [transferFailed, pollHeld, pollFailed, transferred, pollStarted, headRead, frameRead, stagedWhole, pollBody,
    scaledClock]

end

/-- Settles O46: one clause for each transfer; from the failure on every poll goes the same way. -/
theorem pollFailsAtChunk : Obligations.PollFailsAtChunk := by
  intro s hz g c e rest h hhz
  obtain rfl := eq_scaledClock hhz
  refine ⟨?_, ?_, ?_, ?_, ?_, ?_⟩
  · exact fun st hst he => pollFails_atStatus h hst he
  · exact fun st wb hst hedge hwb he => pollFails_atWriteBack h hst hedge hwb he
  · exact fun st wb rf hst hwb hrf he => pollFails_atRefresh h hst hwb hrf he
  · exact fun st wb rf ov hst hwb hrf hbit hov he => pollFails_atOverview h hst hwb hrf hbit hov he
  · exact fun st wb rf ov bad ps hst hwb hrf hbit hov hlen hps hbad he =>
      pollFails_atPixel h hst hwb hrf hbit hov hlen hps hbad he
  · exact fun st wb rf ov ack ps hst hwb hrf hbit hov hlen hps hmode hack he =>
      pollFails_atAck h hst hwb hrf hbit hov hlen hps hmode hack he

end Sys2Proof.Machine
end

section
/-!
PROOFS. What one step of a poll can do, said once for all its states (44_poll.md R232 to R244): a request issued, its
bracket opened, a state left with nothing published, the publication, the end.
-/

namespace Sys2Proof.Machine

/-! The steps -/

/-- The registers that no state of a poll but its publication and its exit changes. -/
def pollKept (s : State) : Status × ConfigRegs × Alarm × Alarm × BusAddr × Clock × Bool × Bool × Bool × Bool × Frame ×
    Bool × Clock × List BusRequest :=
  (s.st, s.cf, s.al, s.ah, s.busAddr, s.baseClock, s.ident, s.begun, s.mirrorsLoaded, s.busy, s.frame, s.framePresent,
    s.savedClock, s.busLog)

/-- From `s` to `t` a poll has left a state for one inside its bracket or the exit of it, and published nothing; the
exit holds a failure (44_poll.md R244). -/
structure PollPasses (s t : State) : Prop where
  kept : pollKept t = pollKept s
  pending : t.pending = none
  place : t.seq ∈ pollStates ∧ t.seq ≠ .plClk
  failed : t.seq = .plExit → t.outcome ≠ .none
  staged : Staged s.stg s.chunk s.seq → Staged t.stg t.chunk t.seq

/-- The request a state of a poll issues: of the clock at both ends of the bracket, else a transfer (44_poll.md
R232). -/
def PollIssues (s : State) (r : BusRequest) : Prop :=
  s.seq = .plClk ∧ r = .clkGet ∨ s.seq = .plExit ∧ r = .clkSet s.savedClock ∨
    s.seq ≠ .plClk ∧ s.seq ≠ .plExit ∧ isTransfer r = true

/-- What one step of the sequencer in a poll can be. -/
inductive PollStep (s t : State) : Prop
  | issues (r : BusRequest) (hp : s.pending = none) (hr : PollIssues s r) (hreq : requests s.seq = true)
      (ht : t = issue r s)
  | opens (a : Answer) (rest : List Event) (hq : s.seq = .plClk) (hp : s.pending = some .clkGet)
      (he : s.env = .answer a :: rest)
      (ht : t = issue (.clkSet (scaledClock s)) { answeredWith .clkGet a rest s with savedClock := a.hz })
  | passes (hq : s.seq ≠ .plExit) (hp : s.seq = .plClk → s.pending ≠ none ∧ s.pending ≠ some .clkGet)
      (ht : PollPasses s t)
  | publishes (hq : s.seq = .plPublish) (ht : t = { publish s with outcome := .none, seq := .plExit })
      (hp : s.pending = none)
  | ends (r : BusRequest) (a : Answer) (rest : List Event) (hq : s.seq = .plExit) (hp : s.pending = some r)
      (ht : t = endWith 0 (answeredWith r a rest s))

/-- A poll runs or has ended; a request is outstanding only where one is issued. -/
def InPoll (s : State) : Prop := s.seq = .idle ∨ s.seq ∈ pollStates ∧ (requests s.seq = false → s.pending = none)

section
variable {p : Plan} {s t : State}

/-- A failure inside the bracket. -/
theorem pollPasses_failed {u : State} {c : Cause} (hc : c ≠ .none) (hk : pollKept u = pollKept s)
    (hp : u.pending = none) : PollPasses s (pollFailed c u) :=
  ⟨hk, hp, (by decide : Seq.plExit ∈ pollStates ∧ Seq.plExit ≠ .plClk), fun _ => hc, fun _ => trivial⟩

/-- A step on inside the bracket. -/
theorem pollPasses_on (q' : Seq) (ht : t.seq = q') (hm : q' ∈ pollStates ∧ q' ≠ .plClk ∧ q' ≠ .plExit)
    (hk : pollKept t = pollKept s) (hp : t.pending = none)
    (hst : Staged s.stg s.chunk s.seq → Staged t.stg t.chunk q') : PollPasses s t := by
  subst ht
  exact ⟨hk, hp, ⟨hm.1, hm.2.1⟩, fun hx => absurd hx hm.2.2, hst⟩

/-- A state inside the bracket whose request is answered. -/
theorem pollPasses_respond {r : BusRequest} {a : Answer} (hp : s.pending = none)
    (hq : s.seq ∈ [Seq.plStatus, .plBtnack, .plRefresh, .plOverview, .plPixel, .plAck]) :
    PollPasses s (respond p r a s) := by
  have hat {q : Seq} (hs : s.seq = q) (h : Staged s.stg s.chunk s.seq) : Staged s.stg s.chunk q := hs ▸ h
  simp only [List.mem_cons, List.not_mem_nil, or_false] at hq
  rcases hq with hq | hq | hq | hq | hq | hq <;> simp only [respond, hq]
  · rcases statusRead_cases (a := a) hq with ⟨b, hlen, ht | ht⟩ | ht <;> rw [ht]
    · exact pollPasses_on .plBtnack rfl (by decide) rfl hp fun _ => hlen
    · exact pollPasses_on .plRefresh rfl (by decide) rfl hp fun _ => hlen
    · exact pollPasses_failed nofun rfl hp
  · rcases buttonAcked_cases (a := a) hq with ht | ht <;> rw [ht]
    · exact pollPasses_on .plRefresh rfl (by decide) rfl hp fun h => (hat hq h :)
    · exact pollPasses_failed nofun rfl hp
  · rcases refreshRead_cases (a := a) hq with ⟨b, hlen, ⟨hready, ht⟩ | ht⟩ | ht <;> rw [ht]
    · exact pollPasses_on .plOverview rfl (by decide) rfl hp fun h => ⟨hat hq h, hlen, hready⟩
    · exact pollPasses_failed nofun rfl hp
    · exact pollPasses_failed nofun rfl hp
  · rcases overviewRead_cases (a := a) hq with ⟨b, -, hlen, ht⟩ | ⟨-, ht⟩ <;> rw [ht]
    · exact pollPasses_on .plPixel rfl (by decide) rfl hp fun h => (hat hq h : StagedRefresh s.stg).toPixel hlen
    · exact pollPasses_failed nofun rfl hp
  · rcases chunkRead_cases (a := a) hq with ⟨b, -, hlen, ⟨hk, ht⟩ | ⟨hk, ht | ht⟩⟩ | ⟨-, ht⟩ <;> rw [ht]
    · exact pollPasses_on .plPixel hq (by decide) rfl hp fun h => (hat hq h).nextChunk hlen hk
    · exact pollPasses_on .plAck rfl (by decide) rfl hp fun h => (hat hq h).lastChunk hlen hk
    · exact pollPasses_on .plValidate rfl (by decide) rfl hp fun h => (hat hq h).lastChunk hlen hk
    · exact pollPasses_failed nofun rfl hp
  · rcases frameAcked_cases (a := a) hq with ht | ht <;> rw [ht]
    · exact pollPasses_on .plValidate rfl (by decide) rfl hp fun h => (hat hq h :)
    · exact pollPasses_failed nofun rfl hp

/-- The validity check (44_poll.md R241). -/
theorem pollPasses_validate (hp : s.pending = none) (hq : s.seq = .plValidate) : PollPasses s (validateFrame s) := by
  rcases validateFrame_cases hq with ⟨hvalid, ht⟩ | ht <;> rw [ht]
  · refine pollPasses_on .plPublish rfl (by decide) rfl hp fun h => ?_
    rw [hq] at h
    exact ⟨h, hvalid⟩
  · exact pollPasses_failed nofun rfl hp

/-- Taking an answer leaves these registers. -/
theorem PollPasses.of_answered {r : BusRequest} {a : Answer} {rest : List Event}
    (h : PollPasses (answeredWith r a rest s) t) : PollPasses s t :=
  ⟨h.kept, h.pending, h.place, h.failed, h.staged⟩

/-- The answers at PL_CLK open the bracket (20_memory.md R84). -/
theorem respond_plClk (r : BusRequest) (a : Answer) (rest : List Event) (hq : s.seq = .plClk) :
    respond p r a (answeredWith r a rest s) =
      bracketOpened (scaledClock s) .plStatus r a (answeredWith r a rest s) := by
  have hseq : (answeredWith r a rest s).seq = .plClk := hq
  simp only [respond, hseq]
  rfl

/-- Every step of a poll is one of these. -/
theorem pollStep_of_seqStep (h : InPoll s) (hstep : seqStep p s = some t) : PollStep s t := by
  obtain ⟨hne, hcases⟩ := seqStep_cases hstep
  obtain ⟨hmem, hpend⟩ := h.resolve_left hne
  rcases hcases with ⟨hp, rfl⟩ | ⟨r, a, rest, hp, he, rfl⟩
  · cases hq : s.seq
    case plClk => exact .issues _ hp (.inl ⟨hq, rfl⟩) (by rw [hq]; rfl) (by simp only [advance, hq])
    case plStatus | plBtnack | plRefresh | plOverview | plPixel | plAck =>
      exact .issues _ hp (.inr (.inr ⟨by simp [hq], by simp [hq], rfl⟩)) (by rw [hq]; rfl)
        (by simp only [advance, hq]; rfl)
    case plValidate =>
      have ht : advance p s = validateFrame s := by simp only [advance, hq]
      exact .passes (by simp [hq]) (by simp [hq]) (ht ▸ pollPasses_validate hp hq)
    case plPublish => exact .publishes hq (by simp only [advance, hq]) hp
    case plExit => exact .issues _ hp (.inr (.inl ⟨hq, rfl⟩)) (by rw [hq]; rfl) (by simp only [advance, hq])
    all_goals simp [hq, pollStates] at hmem
  · change PollStep s (respond p r a (answeredWith r a rest s))
    have hseq : (answeredWith r a rest s).seq = s.seq := rfl
    cases hq : s.seq
    case plClk =>
      have ht := respond_plClk (p := p) r a rest hq
      rcases bracketOpened_cases (scaledClock s) .plStatus r a (answeredWith r a rest s) with ⟨hr, ho⟩ | ⟨hr, ho⟩
      · subst hr
        exact .opens a rest hq hp he (ht.trans ho)
      · refine .passes (by simp [hq]) (fun _ => by simp [hp, hr]) ?_
        rw [ht, ho]
        exact pollPasses_on .plStatus rfl (by decide) rfl rfl fun _ => trivial
    case plStatus | plBtnack | plRefresh | plOverview | plPixel | plAck =>
      exact .passes (by simp [hq]) (by simp [hq])
        (pollPasses_respond (s := answeredWith r a rest s) rfl (by simp [answeredWith, hq])).of_answered
    case plExit => exact .ends r a rest hq hp (by simp only [respond, hseq, hq])
    case plValidate | plPublish => simp [hpend (by rw [hq]; rfl)] at hp
    all_goals simp [hq, pollStates] at hmem

/-- The end of a poll is at IDLE. -/
theorem endWith_seq (v : BitVec 32) (s : State) : (endWith v s).seq = .idle := by
  rcases endWith_cases v s with ⟨-, h⟩ | ⟨-, h⟩ <;> rw [h] <;> rfl

/-- A step of a poll stays in it. -/
theorem InPoll.step (h : InPoll s) (hne : s.seq ≠ .idle) (hstep : PollStep s t) : InPoll t := by
  obtain ⟨hmem, -⟩ := h.resolve_left hne
  cases hstep with
  | issues r hp hr hreq ht =>
    subst ht
    exact .inr ⟨hmem, fun hno => by simp [hreq] at hno⟩
  | opens a rest hq hp he ht =>
    subst ht
    exact .inr ⟨hmem, fun hno => by simp [answeredWith, hq, requests] at hno⟩
  | passes hq hp ht => exact .inr ⟨ht.place.1, fun _ => ht.pending⟩
  | publishes hq ht hp =>
    subst ht
    exact .inr ⟨(by decide : Seq.plExit ∈ pollStates), nofun⟩
  | ends r a rest hq hp ht => exact .inl (ht ▸ endWith_seq 0 _)

/-- Whatever a step of a poll keeps holds after any run of it. -/
theorem run_poll_keeps {P : State → Prop} (hP : ∀ s t, InPoll s → P s → s.seq ≠ .idle → PollStep s t → P t) (n : Nat)
    (hs : InPoll s) (h : P s) : InPoll (run p n s) ∧ P (run p n s) :=
  run_keeps (P := fun u => InPoll u ∧ P u)
    (fun u v hu hstep =>
      have hne := (seqStep_cases hstep).1
      have hpoll := pollStep_of_seqStep hu.1 hstep
      ⟨hu.1.step hne hpoll, hP u v hu.1 hu.2 hne hpoll⟩) n s ⟨hs, h⟩

end

/-! The poll of an event -/

/-- Only `POLL` has the states of a poll. -/
theorem eq_poll_of_state {i : Instr} {q : Seq} (hq : q ∈ pollStates) (h : q ∈ statesOf i) : i = .poll := by
  by_contra hi
  have hne : statesOf i ≠ pollStates := by
    cases i
    case poll => exact absurd rfl hi
    all_goals simp [statesOf, identStates, writeStates, pollStates]
  exact absurd h ((by decide : ∀ l ∈ operations, l ≠ pollStates → ∀ q ∈ pollStates, q ∉ l) _ (statesOf_mem i) hne q hq)

/-- A state of the invariant inside a poll. -/
theorem Inv.inPoll {s : State} (h : Inv s) (hq : s.seq ∈ pollStates) : InPoll s := by
  refine .inr ⟨hq, fun hno => ?_⟩
  cases hp : s.pending with
  | none => rfl
  | some r =>
    have hfits := h.pendingFits r hp
    cases hs : s.seq
    case idle | idCheck | bgInit | bgDone | wrEnsure | wrMutate | plValidate | plPublish | cq =>
      simp [requestFits, hs] at hfits
    all_goals simp [hs, requests] at hno

/-- A step inside a poll that meets no reset: the answer resumes the poll, or the registers stay as they are but for the
query port. -/
theorem step_inPoll {s t : State} (h : Inv s) (hq : s.seq ∈ pollStates) (hreset : ∀ rest, s.env ≠ .reset :: rest)
    (hstep : step s = .next t) :
    (∃ a rest, s.env = .answer a :: rest ∧ t = run planPoll fuel s) ∨
      ∃ e v d, t = { s with env := e, qvalid := v, qdata := d } := by
  have hne : s.seq ≠ .idle := fun hidle => absurd (hidle ▸ hq) (by decide)
  have hbusy : s.busy = true := h.busyIff.mpr hne
  rcases step_cases hstep with ⟨-, rfl⟩ | ⟨w, i, rest, -, -, hexec⟩ | ⟨w, e, rest, -, -, rfl⟩ | ⟨a, rest, -, hidle, -⟩ |
    ⟨a, rest, p, he, -, hp, rfl⟩ | ⟨rest, he, -⟩
  · exact .inr ⟨t.env, t.qvalid, t.qdata, rfl⟩
  · rcases exec_cases hexec with ⟨v, -, rfl⟩ | ⟨-, -, rfl⟩ | ⟨p, -, hb, -⟩
    · exact .inr ⟨rest, _, _, rfl⟩
    · exact .inr ⟨rest, s.qvalid, s.qdata, rfl⟩
    · simp [hbusy] at hb
  · cases w with
    | query q => exact .inr ⟨rest, false, 0, rfl⟩
    | command w => exact .inr ⟨rest, s.qvalid, s.qdata, if_pos hbusy⟩
  · exact absurd hidle hne
  · obtain ⟨i, hi, hplan⟩ := planOfWord_eq_some.mp hp
    obtain ⟨j, hj⟩ := h.underway hne
    obtain rfl := Except.ok.inj (hj.decoded.symm.trans hi)
    obtain rfl := eq_poll_of_state hq hj.state
    cases hplan
    exact .inl ⟨a, rest, he, rfl⟩
  · exact absurd he (hreset rest)

end Sys2Proof.Machine
end

section
/-!
PROOFS. A poll publishes all or nothing and leaves session and tracker alone (44_poll.md R239, R243 to R245); so only
the other commands move the tracker (60_exceptions.md R320).
-/

namespace Sys2Proof.Machine

/-! What a poll has published -/

/-- A poll has published: it is at its exit with a success, or has ended with one. -/
def pollDone (s : State) : Bool :=
  match s.seq with
  | .idle => s.resOk
  | .plExit => decide (s.outcome = .none)
  | _ => false

/-- Between the state `s0` of a poll and a later state `t` of it: published is all or nothing, by whether the poll is
done and was not at its exit already. -/
structure PollFrom (s0 t : State) : Prop where
  kept : SessionKept s0 t
  busy : t.busy = decide (t.seq ≠ .idle)
  nothing : pollDone t = false → PublishesNothing s0 t
  all : pollDone t = true → PublishesAll s0 t ∨ s0.seq = .plExit ∧ PublishesNothing s0 t
  staged : Staged t.stg t.chunk t.seq

section
variable {s0 s t : State}

/-- Elsewhere a poll has published nothing. -/
theorem pollDone_of_away (hne : s.seq ≠ .idle) (hq : s.seq ≠ .plExit) : pollDone s = false := by
  unfold pollDone
  split
  case h_1 hidle => exact absurd hidle hne
  case h_2 hexit => exact absurd hexit hq
  case h_3 => rfl

/-- A poll from where it is. -/
theorem pollFrom_self (hq : s0.seq ∈ pollStates) (hb : s0.busy = true) (hst : Staged s0.stg s0.chunk s0.seq) :
    PollFrom s0 s0 := by
  have hne : s0.seq ≠ .idle := fun hidle => absurd (hidle ▸ hq) (by decide)
  refine ⟨⟨rfl, rfl, rfl, rfl, rfl, rfl, rfl, rfl⟩, hb.trans (decide_eq_true hne).symm, fun _ => ⟨rfl, rfl, rfl⟩,
    fun hdone => .inr ⟨?_, rfl, rfl, rfl⟩, hst⟩
  by_contra hexit
  simp [pollDone_of_away hne hexit] at hdone

/-- A state that a poll has left without publishing. -/
theorem PollFrom.passes (h : PollFrom s0 s) (hne : s.seq ≠ .idle) (hq : s.seq ≠ .plExit) (ht : PollPasses s t) :
    PollFrom s0 t := by
  have hkept := ht.kept
  simp only [pollKept, Prod.mk.injEq] at hkept
  obtain ⟨hst, hcf, hal, hah, haddr, hclock, hident, hbegun, hloaded, hbusy, hframe, hpresent, -, -⟩ := hkept
  obtain ⟨hk, hb, hnothing, -, hstaged⟩ := h
  have hbefore : pollDone s = false := pollDone_of_away hne hq
  have hidle : t.seq ≠ .idle := fun hi => absurd (hi ▸ ht.place.1) (by decide)
  have hafter : pollDone t = false := by
    unfold pollDone
    split
    case h_1 hi => exact absurd hi hidle
    case h_2 hexit => exact decide_eq_false (ht.failed hexit)
    case h_3 => rfl
  obtain ⟨hf, hp, hs⟩ := hnothing hbefore
  exact ⟨⟨hident.trans hk.ident, hcf.trans hk.cf, hal.trans hk.al, hah.trans hk.ah, haddr.trans hk.busAddr,
    hclock.trans hk.baseClock, hbegun.trans hk.begun, hloaded.trans hk.mirrorsLoaded⟩,
    by rw [hbusy, hb, decide_eq_true hne, decide_eq_true hidle],
    fun _ => ⟨hframe.trans hf, hpresent.trans hp, hst.trans hs⟩, fun hdone => by simp [hafter] at hdone,
    ht.staged hstaged⟩

/-- The registers of the session, which no poll changes (44_poll.md R239). -/
def pollSession (s : State) : ConfigRegs × Alarm × Alarm × BusAddr × Clock × Bool × Bool × Bool :=
  (s.cf, s.al, s.ah, s.busAddr, s.baseClock, s.ident, s.begun, s.mirrorsLoaded)

/-- What a poll publishes and the staging it publishes from. -/
def pollPublished (s : State) : Status × Frame × Bool × Staging := (s.st, s.frame, s.framePresent, s.stg)

/-- A session is kept by whatever keeps its registers. -/
theorem SessionKept.same (h : SessionKept s0 s) (hk : pollSession t = pollSession s) : SessionKept s0 t := by
  simp only [pollSession, Prod.mk.injEq] at hk
  obtain ⟨hcf, hal, hah, haddr, hclock, hident, hbegun, hloaded⟩ := hk
  exact ⟨hident.trans h.ident, hcf.trans h.cf, hal.trans h.al, hah.trans h.ah, haddr.trans h.busAddr,
    hclock.trans h.baseClock, hbegun.trans h.begun, hloaded.trans h.mirrorsLoaded⟩

/-- Nothing published is nothing published after it. -/
theorem PublishesNothing.same (h : PublishesNothing s0 s) (hk : pollPublished t = pollPublished s) :
    PublishesNothing s0 t := by
  simp only [pollPublished, Prod.mk.injEq] at hk
  exact ⟨hk.2.1.trans h.1, hk.2.2.1.trans h.2.1, hk.1.trans h.2.2⟩

/-- All published is all published after it. -/
theorem PublishesAll.same (h : PublishesAll s0 s) (hk : pollPublished t = pollPublished s) : PublishesAll s0 t := by
  simp only [pollPublished, Prod.mk.injEq] at hk
  obtain ⟨hst, hframe, hpresent, hstg⟩ := hk
  obtain ⟨h1, h2, h3, h4, h5, h6, h7, h8, h9⟩ := h
  rw [← hstg] at h1 h2 h3 h4 h5 h6 h7 h9
  exact ⟨h1, h2, h3, h4, h5, h6, hframe.trans h7, hpresent.trans h8, hst.trans h9⟩

/-- What a poll has published is not changed by a request or its answer alone. -/
theorem PollFrom.same (h : PollFrom s0 s) (hk : (pollSession t, pollPublished t) = (pollSession s, pollPublished s))
    (hq : (t.seq, t.chunk, t.busy, t.outcome, t.resOk) = (s.seq, s.chunk, s.busy, s.outcome, s.resOk)) :
    PollFrom s0 t := by
  obtain ⟨hsession, hpublished⟩ := Prod.mk.inj hk
  simp only [Prod.mk.injEq] at hq
  obtain ⟨hseq, hchunk, hbusy, hout, hok⟩ := hq
  have hdone : pollDone t = pollDone s := by simp only [pollDone, hseq, hout, hok]
  have hstg : t.stg = s.stg := congrArg (·.2.2.2) hpublished
  exact ⟨h.kept.same hsession, by rw [hbusy, hseq, h.busy], fun hd => (h.nothing (hdone ▸ hd)).same hpublished,
    fun hd => (h.all (hdone ▸ hd)).imp (·.same hpublished) (.imp_right (·.same hpublished)),
    by rw [hstg, hchunk, hseq]; exact h.staged⟩

/-- The publication (44_poll.md R243). -/
theorem PollFrom.publishes (h : PollFrom s0 s) (hq : s.seq = .plPublish) :
    PollFrom s0 { publish s with outcome := .none, seq := .plExit } := by
  obtain ⟨hk, hb, hnothing, -, hstaged⟩ := h
  obtain ⟨hf, hp, hs⟩ := hnothing (by simp [pollDone, hq])
  obtain ⟨⟨hrefresh, hover, hpixels⟩, hvalid⟩ : Staged s.stg s.chunk .plPublish := hq ▸ hstaged
  have hready := hrefresh.ready
  rw [frameReady_eq, decide_eq_true_iff] at hready
  refine ⟨⟨hk.ident, hk.cf, hk.al, hk.ah, hk.busAddr, hk.baseClock, hk.begun, hk.mirrorsLoaded⟩,
    hb.trans (by simp [hq]), nofun, fun _ => .inl ?_, trivial⟩
  exact ⟨hrefresh.status2, hrefresh.refresh, hover, hpixels, hready, of_decide_eq_true hvalid, rfl, rfl,
    by rw [← hs]; rfl⟩

/-- The end of a poll (44_poll.md R244). -/
theorem PollFrom.ends (h : PollFrom s0 s) (hq : s.seq = .plExit) : PollFrom s0 (endWith 0 s) := by
  have hdone : pollDone s = decide (s.outcome = .none) := by simp [pollDone, hq]
  rcases endWith_cases 0 s with ⟨ho, ht⟩ | ⟨ho, ht⟩ <;> rw [ht]
  · have hall := h.all (hdone.trans (decide_eq_true ho))
    exact ⟨h.kept.same rfl, rfl, nofun, fun _ => hall.imp (·.same rfl) (.imp_right (·.same rfl)), trivial⟩
  · obtain ⟨hf, hp, hs⟩ := h.nothing (hdone.trans (decide_eq_false ho))
    exact ⟨h.kept.same rfl, rfl, fun _ => ⟨hf, hp, hs⟩, nofun, trivial⟩

/-- Every step of a poll. -/
theorem PollFrom.step (h : PollFrom s0 s) (hne : s.seq ≠ .idle) (hstep : PollStep s t) : PollFrom s0 t := by
  cases hstep with
  | issues r hp hr hreq ht =>
    subst ht
    exact h.same rfl rfl
  | opens a rest hq hp he ht =>
    subst ht
    exact h.same rfl rfl
  | passes hq hp ht => exact h.passes hne hq ht
  | publishes hq ht hp =>
    subst ht
    exact h.publishes hq
  | ends r a rest hq hp ht =>
    subst ht
    exact PollFrom.ends (h.same rfl rfl) hq

/-- Every run of a poll. -/
theorem PollFrom.run {p : Plan} (h : PollFrom s0 s) (hs : InPoll s) (n : Nat) : PollFrom s0 (run p n s) :=
  (run_poll_keeps (P := PollFrom s0) (fun _ _ _ hu hne hstep => hu.step hne hstep) n hs h).2

/-- A poll that has ended is at IDLE. -/
theorem PollFrom.idle (h : PollFrom s0 t) (hb : t.busy = false) : t.seq = .idle := by
  simpa [hb] using h.busy

/-- What is published when nothing of a poll's is. -/
theorem published_of_nothing (hk : SessionKept s0 t) (hn : PublishesNothing s0 t) (hb : t.busy = false) :
    published t = { published s0 with busy := false } := by
  obtain ⟨hf, hp, hs⟩ := hn
  simp only [published, hk.ident, hk.cf, hk.al, hk.ah, hk.begun, hk.mirrorsLoaded, hf, hp, hs, hb]

end

/-! The obligations -/

/-- A step inside a poll that meets no reset. -/
theorem pollFrom_step {s t : State} (h : Inv s) (hq : s.seq ∈ pollStates) (hreset : ∀ rest, s.env ≠ .reset :: rest)
    (hstep : step s = .next t) : PollFrom s t := by
  have hne : s.seq ≠ .idle := fun hidle => absurd (hidle ▸ hq) (by decide)
  have hself : PollFrom s s := pollFrom_self hq (h.busyIff.mpr hne) h.staged
  rcases step_inPoll h hq hreset hstep with ⟨a, rest, -, rfl⟩ | ⟨e, v, d, rfl⟩
  · exact hself.run (h.inPoll hq) fuel
  · exact hself.same rfl rfl

/-- `POLL` presented to a ready block is refused or runs (44_poll.md R231). -/
theorem exec_poll_cases {s t : State} (h : Ready s) (hexec : exec .poll s = .next t) :
    (∃ c, t = withFail .poll c s) ∨ PollReady s ∧ t = run planPoll fuel (pollStarted s) := by
  cases hc : checkMirrors s with
  | some c => exact .inl ⟨c, Host.Outcome.next.inj (hexec.symm.trans (exec_refused h rfl hc))⟩
  | none =>
    obtain ⟨hb, hm⟩ := loaded_of_checkMirrors hc
    exact .inr ⟨⟨h, hb, hm⟩, Host.Outcome.next.inj (hexec.symm.trans (exec_poll_run ⟨h, hb, hm⟩))⟩

/-- A poll that starts has published nothing. -/
theorem pollFrom_started {s : State} (h : Ready s) : InPoll (pollStarted s) ∧ PollFrom s (pollStarted s) :=
  ⟨.inr ⟨(by decide : Seq.plClk ∈ pollStates), fun _ => h.pending⟩,
    ⟨⟨rfl, rfl, rfl, rfl, rfl, rfl, rfl, rfl⟩, rfl, fun _ => ⟨rfl, rfl, rfl⟩, nofun, trivial⟩⟩

/-- Settles O47: both clauses read the end of the run off `PollFrom`; a ready block is not at the exit of a poll. -/
theorem pollLeavesPublishedState : Obligations.PollLeavesPublishedState := by
  refine ⟨fun s t h hq hreset hstep => ?_, fun s t h hexec => ?_⟩
  · have hfrom := pollFrom_step h hq hreset hstep
    refine ⟨hfrom.kept, ?_, fun hb hfail => ?_⟩
    · cases hd : pollDone t with
      | true => exact (hfrom.all hd).symm.imp_left And.right
      | false => exact .inl (hfrom.nothing hd)
    · exact published_of_nothing hfrom.kept (hfrom.nothing (by simp [pollDone, hfrom.idle hb, hfail])) hb
  · rcases exec_poll_cases h hexec with ⟨c, rfl⟩ | ⟨hready, rfl⟩
    · have hbusy : (withFail .poll c s).busy = false := h.busy
      refine ⟨⟨rfl, rfl, rfl, rfl, rfl, rfl, rfl, rfl⟩, fun _ _ => rfl, nofun, ?_, ?_, ?_⟩ <;>
        exact fun hb => by simp [hbusy] at hb
    · obtain ⟨hin, hstart⟩ := pollFrom_started h
      have hfrom := hstart.run (p := planPoll) hin fuel
      have hall (hd : pollDone (run planPoll fuel (pollStarted s)) = true) :=
        (hfrom.all hd).resolve_right fun hexit => by simp [h.seq] at hexit
      refine ⟨hfrom.kept, fun hb hfail => ?_, fun hb hok => ?_, fun hb hq => ?_, fun hb hq ho => ?_, fun hb hq ho => ?_⟩
      · rw [published_of_nothing hfrom.kept (hfrom.nothing (by simp [pollDone, hfrom.idle hb, hfail])) hb]
        simp only [published, h.busy]
      · exact hall (by simp [pollDone, hfrom.idle hb, hok])
      · have hne : (run planPoll fuel (pollStarted s)).seq ≠ .idle := of_decide_eq_true (hfrom.busy.symm.trans hb)
        exact hfrom.nothing (pollDone_of_away hne hq)
      · exact hfrom.nothing (by simp [pollDone, hq, ho])
      · exact hall (by simp [pollDone, hq, ho])

/-! The tracker -/

/-- The commands that cannot move the tracker are the poll and the clock query. -/
theorem eq_poll_or_clkq {i : Instr} (hc : i.isCommand = true) (h : ¬ movesTracker i) : i = .poll ∨ i = .clkq := by
  cases i
  case poll => exact .inl rfl
  case clkq => exact .inr rfl
  case beginSession a hz => exact absurd (.inl ⟨a, hz, rfl⟩) h
  case identify => exact absurd (.inr (.inl rfl)) h
  case qmir | qpix | qsum | qbtn | qpixc | qsumc | qstate => cases hc
  all_goals exact absurd (.inr (.inr rfl)) h

/-- `CLKQ` leaves the tracker (40_clock_scaler.md R133). -/
theorem exec_clkq_ident {s t : State} (h : Ready s) (hexec : exec .clkq s = .next t) : t.ident = s.ident := by
  cases hc : checkMirrors s with
  | some c =>
    obtain rfl := Host.Outcome.next.inj (hexec.symm.trans (exec_refused h rfl hc))
    rfl
  | none =>
    obtain ⟨hb, hm⟩ := loaded_of_checkMirrors hc
    obtain rfl := Host.Outcome.next.inj (hexec.symm.trans (exec_clkq_ok h hb hm))
    rfl

/-- An instruction that moves the tracker of a ready block is one that can. -/
theorem movesTracker_of_exec {i : Instr} {s t : State} (h : Ready s) (hexec : exec i s = .next t)
    (hident : t.ident ≠ s.ident) : movesTracker i := by
  by_contra hmoves
  refine hident ?_
  rcases exec_cases hexec with ⟨v, -, rfl⟩ | ⟨-, -, rfl⟩ | ⟨p, hplan, -, -⟩
  · rfl
  · rfl
  · have hcommand : i.isCommand = true := by rw [← planOf_isSome, hplan]; rfl
    rcases eq_poll_or_clkq hcommand hmoves with rfl | rfl
    · exact (pollLeavesPublishedState.2 s t h hexec).1.ident
    · exact exec_clkq_ident h hexec

/-- An answer leaves the tracker of a clock query and of a poll. -/
theorem ident_of_resumed {i : Instr} {s t : State} {a : Answer} {rest : List Event} (h : Inv s) (hu : Underway i s)
    (henv : s.env = .answer a :: rest) (hstep : step s = .next t) (hi : i = .poll ∨ i = .clkq) :
    t.ident = s.ident := by
  rcases hi with rfl | rfl
  · exact (pollFrom_step h hu.state (by simp [henv]) hstep).kept.ident
  · have hq : s.seq = .cq := List.mem_singleton.mp hu.state
    have hp : s.pending = none := by
      cases hp : s.pending with
      | none => rfl
      | some r => simpa [requestFits, hq] using h.pendingFits r hp
    obtain ⟨p, -, rfl⟩ := step_answer (by simp [hq]) henv hstep
    rw [show fuel = 511 + 1 from rfl, run_clkq 511 hq hp]
    rfl

/-- Settles O57: every other event and every other command leaves the tracker. -/
theorem trackerFallsOnlyByItsEvents : Obligations.TrackerFallsOnlyByItsEvents := by
  refine ⟨fun s t h hstep hident => ?_, fun i s t h hexec hident => movesTracker_of_exec h hexec hident⟩
  rcases step_cases hstep with ⟨-, rfl⟩ | ⟨w, i, rest, he, hdec, hexec⟩ | ⟨w, e, rest, -, -, rfl⟩ |
    ⟨a, rest, -, -, rfl⟩ | ⟨a, rest, p, he, hq, hp, -⟩ | ⟨rest, he, rfl⟩
  · exact absurd rfl hident
  · have hb : s.busy = false := by
      rcases exec_cases hexec with ⟨v, -, rfl⟩ | ⟨-, -, rfl⟩ | ⟨p, -, hb, -⟩
      · exact absurd rfl hident
      · exact absurd rfl hident
      · exact hb
    have hmoves := movesTracker_of_exec ((h.withPorts rest s.qvalid s.qdata).ready hb) hexec hident
    cases w with
    | command w => exact .inr (.inl ⟨w, i, rest, he, hb, hdec, hmoves⟩)
    | query q =>
      have hquery := exec_query { s with env := rest } (encodeQuery_of_decodeQuery hdec).1
      obtain rfl := Host.Outcome.next.inj (hquery.symm.trans hexec)
      exact absurd rfl hident
  · refine absurd ?_ hident
    cases w with
    | query q => rfl
    | command w => cases hb : s.busy <;> simp [illegalWord, illegalCommand]
  · exact absurd rfl hident
  · obtain ⟨i, hu⟩ := h.underway hq
    refine .inr (.inr ⟨a, i, rest, he, hu.busy, hu.decoded, ?_⟩)
    by_contra hmoves
    exact hident (ident_of_resumed h hu he hstep (eq_poll_or_clkq (isCommand_of_state hu.state) hmoves))
  · exact .inl ⟨rest, he, rfl⟩

end Sys2Proof.Machine
end

section
/-!
PROOFS. Every poll past its admission that ends has restored the clock it found (20_memory.md R84, 44_poll.md R232,
R244).
-/

namespace Sys2Proof.Machine

/-! Inside the bracket -/

/-- The closing request of the bracket, once the exit has issued it (44_poll.md R244). -/
def closing (c : Clock) (s : State) : List BusRequest :=
  if s.seq = .idle ∨ s.seq = .plExit ∧ s.pending ≠ none then [.clkSet c] else []

/-- The bracket of a poll has saved the clock `c`; since the log `base` it has made transfers, and its closing
request. -/
structure InBracket (c : Clock) (base : List BusRequest) (s : State) : Prop where
  clock : s.savedClock = c
  opened : s.seq = .plClk → s.pending ≠ none ∧ s.pending ≠ some .clkGet
  log : ∃ mid, (∀ r ∈ mid, isTransfer r = true) ∧ s.busLog = base ++ mid ++ closing c s

section
variable {c : Clock} {base : List BusRequest} {s t : State}

/-- Before the exit issues it there is none. -/
theorem closing_none (hne : s.seq ≠ .idle) (hx : s.seq = .plExit → s.pending = none) : closing c s = [] :=
  if_neg fun h => h.elim hne fun hp => hp.2 (hx hp.1)

/-- The end of a poll keeps the saved clock and the log. -/
theorem endWith_frame (v : BitVec 32) (s : State) :
    (endWith v s).savedClock = s.savedClock ∧ (endWith v s).busLog = s.busLog := by
  rcases endWith_cases v s with ⟨-, h⟩ | ⟨-, h⟩ <;> rw [h] <;> exact ⟨rfl, rfl⟩

/-- A request of the bracket. -/
theorem InBracket.issues {r : BusRequest} (h : InBracket c base s) (hne : s.seq ≠ .idle) (hp : s.pending = none)
    (hr : PollIssues s r) : InBracket c base (issue r s) := by
  obtain ⟨hclock, hopened, mid, hmid, hlog⟩ := h
  rw [closing_none hne fun _ => hp, List.append_nil] at hlog
  rcases hr with ⟨hq, -⟩ | ⟨hq, rfl⟩ | ⟨hq, hx, hr⟩
  · exact absurd hp (hopened hq).1
  · refine ⟨hclock, fun hclk => by simp [hq] at hclk, mid, hmid, ?_⟩
    have hclosing : closing c (issue (.clkSet s.savedClock) s) = [.clkSet c] := if_pos (.inr ⟨hq, by simp⟩)
    rw [hclosing, ← hlog, issue_busLog, hclock]
  · refine ⟨hclock, fun hclk => absurd hclk hq, mid ++ [r], fun u hu => ?_, ?_⟩
    · rcases List.mem_append.mp hu with hu | hu
      · exact hmid u hu
      · rwa [List.mem_singleton.mp hu]
    · have hopen : closing c (issue r s) = [] := closing_none hne fun hexit => absurd hexit hx
      rw [hopen, issue_busLog, hlog]
      simp

/-- Every step of a poll whose bracket is open. -/
theorem InBracket.step (h : InBracket c base s) (hne : s.seq ≠ .idle) (hstep : PollStep s t) :
    InBracket c base t := by
  cases hstep with
  | issues r hp hr hreq ht => exact ht ▸ h.issues hne hp hr
  | opens a rest hq hp he ht => exact absurd hp (h.opened hq).2
  | passes hq hp ht =>
    obtain ⟨hclock, -, mid, hmid, hlog⟩ := h
    have hkept := ht.kept
    simp only [pollKept, Prod.mk.injEq] at hkept
    obtain ⟨-, -, -, -, -, -, -, -, -, -, -, -, hsaved, hbus⟩ := hkept
    have hidle : t.seq ≠ .idle := fun hi => absurd (hi ▸ ht.place.1) (by decide)
    refine ⟨hsaved.trans hclock, fun hclk => absurd hclk ht.place.2, mid, hmid, ?_⟩
    rw [hbus, hlog, closing_none hne fun hexit => absurd hexit hq, closing_none hidle fun _ => ht.pending]
  | publishes hq ht hp =>
    obtain ⟨hclock, -, mid, hmid, hlog⟩ := h
    subst ht
    refine ⟨hclock, nofun, mid, hmid, ?_⟩
    rw [closing_none hne fun hexit => by simp [hq] at hexit] at hlog
    rw [closing_none (by simp) fun _ => by exact hp]
    exact hlog
  | ends r a rest hq hp ht =>
    obtain ⟨hclock, -, mid, hmid, hlog⟩ := h
    obtain ⟨hsaved, hbus⟩ := endWith_frame 0 (answeredWith r a rest s)
    have hidle := endWith_seq 0 (answeredWith r a rest s)
    subst ht
    refine ⟨hsaved.trans hclock, fun hclk => absurd (hidle.symm.trans hclk) nofun, mid, hmid, ?_⟩
    have hbefore : closing c s = [.clkSet c] := if_pos (.inr ⟨hq, by simp [hp]⟩)
    have hafter : closing c (endWith 0 (answeredWith r a rest s)) = [.clkSet c] := if_pos (.inl hidle)
    rw [hbus, hafter, ← hbefore]
    exact hlog

/-- Every run of it. -/
theorem InBracket.run {p : Plan} (h : InBracket c base s) (hs : InPoll s) (n : Nat) :
    InBracket c base (run p n s) :=
  (run_poll_keeps (P := InBracket c base) (fun _ _ _ hu hne hstep => hu.step hne hstep) n hs h).2

/-- At its end the closing request is the last. -/
theorem InBracket.log_idle (h : InBracket c base s) (hq : s.seq = .idle) :
    ∃ mid, (∀ r ∈ mid, isTransfer r = true) ∧ s.busLog = base ++ mid ++ [.clkSet c] := by
  obtain ⟨-, -, mid, hmid, hlog⟩ := h
  exact ⟨mid, hmid, hlog.trans (by rw [closing, if_pos (.inl hq)])⟩

/-! Into the bracket -/

/-- The answer to `ClkGet` opens the bracket with the clock it brings (20_memory.md R84). -/
theorem run_opens {p : Plan} {a : Answer} {rest : List Event} (n : Nat) (hq : s.seq = .plClk)
    (hp : s.pending = some .clkGet) (he : s.env = .answer a :: rest) :
    ∃ u, run p (n + 1) s = run p n u ∧ InPoll u ∧ InBracket a.hz (s.busLog ++ [.clkSet (scaledClock s)]) u := by
  refine ⟨issue (.clkSet (scaledClock s)) { answeredWith .clkGet a rest s with savedClock := a.hz }, ?_, ?_, ?_⟩
  · rw [run_respond n (by simp [hq]) hp he]
    exact congrArg (run p n) (respond_plClk .clkGet a rest hq)
  · exact .inr ⟨by change s.seq ∈ pollStates; rw [hq]; decide, fun hno => by simp [answeredWith, hq, requests] at hno⟩
  · refine ⟨rfl, fun _ => ⟨by simp, by simp⟩, [], nofun, ?_⟩
    rw [closing_none (by simp [answeredWith, hq]) fun hexit => by simp [answeredWith, hq] at hexit]
    simp [answeredWith]

/-- A state of the invariant whose bracket is open is in it with the clock it has saved. -/
theorem Inv.inBracket (h : Inv s) (hclk : s.seq = .plClk → s.pending ≠ none ∧ s.pending ≠ some .clkGet)
    (hne : s.seq ≠ .idle) : ∃ base, InBracket s.savedClock base s := by
  by_cases hx : s.seq = .plExit ∧ s.pending ≠ none
  · obtain ⟨hq, hp⟩ := hx
    obtain ⟨r, hr⟩ := Option.ne_none_iff_exists'.mp hp
    have hfits := h.pendingFits r hr
    obtain rfl : r = .clkSet s.savedClock := by
      cases r <;> simp_all [requestFits]
    obtain ⟨base, hbase⟩ := List.getLast?_eq_some_iff.mp (h.pendingLast _ hr)
    exact ⟨base, rfl, hclk, [], nofun, by rw [closing, if_pos (.inr ⟨hq, hp⟩), hbase, List.append_nil]⟩
  · exact ⟨s.busLog, rfl, hclk, [], nofun, by
      rw [closing, if_neg fun hor => hor.elim hne hx, List.append_nil, List.append_nil]⟩

/-- A poll that an answer resumes is in its bracket, or enters it with the clock that answer brings. -/
theorem exists_inBracket {a : Answer} {rest : List Event} (h : Inv s) (hq : s.seq ∈ pollStates)
    (he : s.env = .answer a :: rest) :
    ∃ c base, InBracket c base (run planPoll fuel s) ∧
      (s.seq = .plClk → s.pending = some .clkGet → c = a.hz) ∧
      (∀ hz, s.seq = .plClk → s.pending = some (.clkSet hz) → c = s.savedClock) ∧
      (s.seq ≠ .plClk → c = s.savedClock) := by
  have hne : s.seq ≠ .idle := fun hidle => absurd (hidle ▸ hq) (by decide)
  by_cases hclk : s.seq = .plClk → s.pending ≠ none ∧ s.pending ≠ some .clkGet
  · obtain ⟨base, hbase⟩ := h.inBracket hclk hne
    exact ⟨s.savedClock, base, hbase.run (h.inPoll hq) fuel, fun hs hp => absurd hp (hclk hs).2, fun _ _ _ => rfl,
      fun _ => rfl⟩
  · obtain ⟨hs, hp⟩ : s.seq = .plClk ∧ ¬ (s.pending ≠ none ∧ s.pending ≠ some .clkGet) := Classical.not_imp.mp hclk
    have hgot : ∃ base, InBracket a.hz base (run planPoll fuel s) := by
      cases hpend : s.pending with
      | none =>
        have hadv : advance planPoll s = issue .clkGet s := by simp only [advance, hs]
        obtain ⟨u, hrun, hin, hu⟩ := run_opens (p := planPoll) (s := issue .clkGet s) 510 hs rfl he
        rw [show fuel = 510 + 1 + 1 from rfl, run_advance (510 + 1) hne hpend, hadv, hrun]
        exact ⟨_, hu.run hin 510⟩
      | some r =>
        obtain rfl : r = .clkGet := by simpa [hpend] using hp
        obtain ⟨u, hrun, hin, hu⟩ := run_opens (p := planPoll) 511 hs hpend he
        rw [show fuel = 511 + 1 from rfl, hrun]
        exact ⟨_, hu.run hin 511⟩
    obtain ⟨base, hbase⟩ := hgot
    exact ⟨a.hz, base, hbase, fun _ _ => rfl, fun hz _ hset => absurd ⟨by simp [hset], by simp [hset]⟩ hp,
      fun hns => absurd hs hns⟩

end

/-- Settles O48: presented, the poll opens its bracket before anything else; resumed, it is in it or enters it. -/
theorem pollRestoresClock : Obligations.PollRestoresClock := by
  refine ⟨fun s t h hexec hb => ?_, fun s t h hq hreset hstep hb => ?_⟩
  · obtain rfl := Host.Outcome.next.inj (hexec.symm.trans (exec_poll_run h))
    obtain ⟨hin, hstart⟩ := pollFrom_started h.ready
    have hidle := (hstart.run (p := planPoll) hin fuel).idle hb
    have hget : run planPoll fuel (pollStarted s) = run planPoll 511 (issue .clkGet (pollStarted s)) := by
      rw [show fuel = 511 + 1 from rfl, run_advance 511 (by simp [pollStarted]) (by exact h.ready.pending)]
      rfl
    cases hanswer : seqStep planPoll (issue .clkGet (pollStarted s)) with
    | none =>
      rw [hget, run_stop 511 hanswer] at hidle
      cases hidle
    | some u =>
      obtain ⟨-, ⟨hp, -⟩ | ⟨r, g, rest, -, he, -⟩⟩ := seqStep_cases hanswer
      · cases hp
      · obtain ⟨v, hrun, hinv, hv⟩ := run_opens (p := planPoll) (s := issue .clkGet (pollStarted s)) 510 rfl rfl he
        rw [hget, show 511 = 510 + 1 from rfl, hrun] at hidle ⊢
        obtain ⟨mid, hmid, hlog⟩ := (hv.run (p := planPoll) hinv 510).log_idle hidle
        refine ⟨g, rest, mid, he, hmid, ?_⟩
        rw [hlog, issue_busLog]
        simp [pollStarted, scaledClock]
  · have hne : s.seq ≠ .idle := fun hidle => absurd (hidle ▸ hq) (by decide)
    rcases step_inPoll h hq hreset hstep with ⟨a, rest, he, rfl⟩ | ⟨e, v, d, rfl⟩
    · obtain ⟨c, base, hbracket, hget, hset, helse⟩ := exists_inBracket h hq he
      have hidle := (pollFrom_step h hq hreset hstep).idle hb
      obtain ⟨mid, -, hlog⟩ := hbracket.log_idle hidle
      have hclock := hbracket.clock
      refine ⟨by simp [hlog, hclock], fun g rest' hs hp hg => ?_, fun hz hs hp => hclock.trans (hset hz hs hp),
        fun hs => hclock.trans (helse hs)⟩
      obtain ⟨rfl, -⟩ : g = a ∧ rest' = rest := by simpa [hg] using he
      exact hclock.trans (hget hs hp)
    · simp [h.busyIff.mpr hne] at hb

end Sys2Proof.Machine
end
